-- ==== Sys2Proof/Word.lean ====
section
/-! DEFINITION. The two word types of the core: bytes, and 16-bit addresses and data
(spec/00_scope.md R4, R8: every value of a rule is a u8 or a u16). -/

namespace Sys2Proof

/-- A u8: register contents, memory bytes, opcode and immediate bytes (R8). -/
abbrev Byte := BitVec 8

/-- A u16: SP, PC, the pair views and every address (R4: addresses are 16 bits wide). -/
abbrev Addr := BitVec 16

end Sys2Proof
end

