-- ==== Sys2Proof/Syntax.lean ====
section
/-! DEFINITION. The instruction set as syntax: the operand fields of spec/30_encoding.md R70-R76, and Instr, one
constructor per row of spec/opcode_table.json (R78, R79, R80). A constructor's name is the row's mnemonic with
`(HL)` written atHL, `(HL+)` atHLinc, `(HL-)` atHLdec, `(BC)` atBC, `(DE)` atDE, `(C)` atC and `SP+e8` SPe8; the
eleven ILLEGAL rows carry their opcode. -/

namespace Sys2Proof

/-- The seven registers an r field names (R70). -/
inductive Reg8 where
  | A | B | C | D | E | H | L
deriving DecidableEq, Repr

/-- The r field: a register, or the byte at HL for value 6 (R70). -/
inductive RField where
  | reg (r : Reg8)
  | atHL
deriving DecidableEq, Repr

/-- The rr field (R71). -/
inductive Reg16 where
  | BC | DE | HL | SP
deriving DecidableEq, Repr

/-- The qq field (R72). -/
inductive StackReg where
  | BC | DE | HL | AF
deriving DecidableEq, Repr

/-- The cc field (R73). -/
inductive Cond where
  | NZ | Z | NC | C
deriving DecidableEq, Repr

/-- The ALU-op field (R74). -/
inductive AluOp where
  | ADD | ADC | SUB | SBC | AND | XOR | OR | CP
deriving DecidableEq, Repr

/-- The rotate/shift field (R75). -/
inductive RotOp where
  | RLC | RRC | RL | RR | SLA | SRA | SWAP | SRL
deriving DecidableEq, Repr

/-- The three operations of the bit unit (R64, R210). -/
inductive BitKind where
  | TEST | SET | RESET
deriving DecidableEq, Repr

/-- The p field of the IND format: the pointer and its adjustment (R77). -/
inductive IndPtr where
  | BC | DE | HLinc | HLdec
deriving DecidableEq, Repr

/-- A 3-bit field by its value: y, z, a bit index (R76) or an RST number (R77). -/
inductive Field3 where
  | b0 | b1 | b2 | b3 | b4 | b5 | b6 | b7
deriving DecidableEq, Repr

/-- The value of a 3-bit field as a byte. -/
def Field3.toByte : Field3 → Byte
  | .b0 => 0 | .b1 => 1 | .b2 => 2 | .b3 => 3 | .b4 => 4 | .b5 => 5 | .b6 => 6 | .b7 => 7

/-- The instructions. `n` is a d8 or a8 immediate, `e` an e8, `nn` a d16 or a16 (R65, R66, R67).
`prefix_CB cb` is the table's row for the byte 0xCB itself, with the CB byte after it (R64; log entry 9). -/
inductive Instr where
  -- 40_loads R100. LD r,r' (0x40 ...)
  | ld_B_B | ld_B_C | ld_B_D | ld_B_E | ld_B_H | ld_B_L | ld_B_A | ld_C_B | ld_C_C | ld_C_D | ld_C_E | ld_C_H
  | ld_C_L | ld_C_A | ld_D_B | ld_D_C | ld_D_D | ld_D_E | ld_D_H | ld_D_L | ld_D_A | ld_E_B | ld_E_C | ld_E_D
  | ld_E_E | ld_E_H | ld_E_L | ld_E_A | ld_H_B | ld_H_C | ld_H_D | ld_H_E | ld_H_H | ld_H_L | ld_H_A | ld_L_B
  | ld_L_C | ld_L_D | ld_L_E | ld_L_H | ld_L_L | ld_L_A | ld_A_B | ld_A_C | ld_A_D | ld_A_E | ld_A_H | ld_A_L
  | ld_A_A
  -- 40_loads R101. LD r,d8 (0x06 ...)
  | ld_B_d8 (n : Byte) | ld_C_d8 (n : Byte) | ld_D_d8 (n : Byte) | ld_E_d8 (n : Byte) | ld_H_d8 (n : Byte)
  | ld_L_d8 (n : Byte) | ld_A_d8 (n : Byte)
  -- 40_loads R102. LD r,(HL) (0x46 ...)
  | ld_B_atHL | ld_C_atHL | ld_D_atHL | ld_E_atHL | ld_H_atHL | ld_L_atHL | ld_A_atHL
  -- 40_loads R103. LD (HL),r (0x70 ...)
  | ld_atHL_B | ld_atHL_C | ld_atHL_D | ld_atHL_E | ld_atHL_H | ld_atHL_L | ld_atHL_A
  -- 40_loads R104. LD (HL),d8 (0x36)
  | ld_atHL_d8 (n : Byte)
  -- 40_loads R105. LD A,(BC) (0x0A)
  | ld_A_atBC
  -- 40_loads R106. LD A,(DE) (0x1A)
  | ld_A_atDE
  -- 40_loads R107. LD (BC),A (0x02)
  | ld_atBC_A
  -- 40_loads R108. LD (DE),A (0x12)
  | ld_atDE_A
  -- 40_loads R109. LD A,(a16) (0xFA)
  | ld_A_a16 (nn : Addr)
  -- 40_loads R110. LD (a16),A (0xEA)
  | ld_a16_A (nn : Addr)
  -- 40_loads R111. LDH A,(a8) (0xF0)
  | ldh_A_a8 (n : Byte)
  -- 40_loads R112. LDH (a8),A (0xE0)
  | ldh_a8_A (n : Byte)
  -- 40_loads R113. LD A,(C) (0xF2)
  | ld_A_atC
  -- 40_loads R114. LD (C),A (0xE2)
  | ld_atC_A
  -- 40_loads R115. LD A,(HL+) (0x2A)
  | ld_A_atHLinc
  -- 40_loads R116. LD A,(HL-) (0x3A)
  | ld_A_atHLdec
  -- 40_loads R117. LD (HL+),A (0x22)
  | ld_atHLinc_A
  -- 40_loads R118. LD (HL-),A (0x32)
  | ld_atHLdec_A
  -- 40_loads R119. LD rr,d16 (0x01 ...)
  | ld_BC_d16 (nn : Addr) | ld_DE_d16 (nn : Addr) | ld_HL_d16 (nn : Addr) | ld_SP_d16 (nn : Addr)
  -- 40_loads R120. LD (a16),SP (0x08)
  | ld_a16_SP (nn : Addr)
  -- 40_loads R121. LD SP,HL (0xF9)
  | ld_SP_HL
  -- 40_loads R124. LD HL,SP+e8 (0xF8)
  | ld_HL_SPe8 (e : Byte)
  -- 40_loads R128. PUSH qq (0xC5 ...)
  | push_BC | push_DE | push_HL | push_AF
  -- 40_loads R129. POP qq (0xC1 ...)
  | pop_BC | pop_DE | pop_HL | pop_AF
  -- 41_alu8 R148. ADD A,r (0x80 ...)
  | add_A_B | add_A_C | add_A_D | add_A_E | add_A_H | add_A_L | add_A_A
  -- 41_alu8 R149. ADD A,(HL) (0x86)
  | add_A_atHL
  -- 41_alu8 R150. ADD A,d8 (0xC6)
  | add_A_d8 (n : Byte)
  -- 41_alu8 R151. ADC A,r (0x88 ...)
  | adc_A_B | adc_A_C | adc_A_D | adc_A_E | adc_A_H | adc_A_L | adc_A_A
  -- 41_alu8 R152. ADC A,(HL) (0x8E)
  | adc_A_atHL
  -- 41_alu8 R153. ADC A,d8 (0xCE)
  | adc_A_d8 (n : Byte)
  -- 41_alu8 R154. SUB r (0x90 ...)
  | sub_B | sub_C | sub_D | sub_E | sub_H | sub_L | sub_A
  -- 41_alu8 R155. SUB (HL) (0x96)
  | sub_atHL
  -- 41_alu8 R156. SUB d8 (0xD6)
  | sub_d8 (n : Byte)
  -- 41_alu8 R157. SBC A,r (0x98 ...)
  | sbc_A_B | sbc_A_C | sbc_A_D | sbc_A_E | sbc_A_H | sbc_A_L | sbc_A_A
  -- 41_alu8 R158. SBC A,(HL) (0x9E)
  | sbc_A_atHL
  -- 41_alu8 R159. SBC A,d8 (0xDE)
  | sbc_A_d8 (n : Byte)
  -- 41_alu8 R160. AND r (0xA0 ...)
  | and_B | and_C | and_D | and_E | and_H | and_L | and_A
  -- 41_alu8 R161. AND (HL) (0xA6)
  | and_atHL
  -- 41_alu8 R162. AND d8 (0xE6)
  | and_d8 (n : Byte)
  -- 41_alu8 R163. XOR r (0xA8 ...)
  | xor_B | xor_C | xor_D | xor_E | xor_H | xor_L | xor_A
  -- 41_alu8 R164. XOR (HL) (0xAE)
  | xor_atHL
  -- 41_alu8 R165. XOR d8 (0xEE)
  | xor_d8 (n : Byte)
  -- 41_alu8 R166. OR r (0xB0 ...)
  | or_B | or_C | or_D | or_E | or_H | or_L | or_A
  -- 41_alu8 R167. OR (HL) (0xB6)
  | or_atHL
  -- 41_alu8 R168. OR d8 (0xF6)
  | or_d8 (n : Byte)
  -- 41_alu8 R169. CP r (0xB8 ...)
  | cp_B | cp_C | cp_D | cp_E | cp_H | cp_L | cp_A
  -- 41_alu8 R170. CP (HL) (0xBE)
  | cp_atHL
  -- 41_alu8 R171. CP d8 (0xFE)
  | cp_d8 (n : Byte)
  -- 41_alu8 R172. INC r (0x04 ...)
  | inc_B | inc_C | inc_D | inc_E | inc_H | inc_L | inc_A
  -- 41_alu8 R173. INC (HL) (0x34)
  | inc_atHL
  -- 41_alu8 R174. DEC r (0x05 ...)
  | dec_B | dec_C | dec_D | dec_E | dec_H | dec_L | dec_A
  -- 41_alu8 R175. DEC (HL) (0x35)
  | dec_atHL
  -- 42_alu16 R182. ADD HL,rr (0x09 ...)
  | add_HL_BC | add_HL_DE | add_HL_HL | add_HL_SP
  -- 42_alu16 R183. INC rr (0x03 ...)
  | inc_BC | inc_DE | inc_HL | inc_SP
  -- 42_alu16 R184. ADD SP,e8 (0xE8)
  | add_SP_e8 (e : Byte)
  -- 42_alu16 R185. DEC rr (0x0B ...)
  | dec_BC | dec_DE | dec_HL | dec_SP
  -- 45_control R222. JP a16 (0xC3)
  | jp_a16 (nn : Addr)
  -- 45_control R223. JP cc,a16 (0xC2 ...)
  | jp_NZ_a16 (nn : Addr) | jp_Z_a16 (nn : Addr) | jp_NC_a16 (nn : Addr) | jp_C_a16 (nn : Addr)
  -- 45_control R224. JP (HL) (0xE9)
  | jp_HL
  -- 45_control R225. JR e8 (0x18)
  | jr_e8 (e : Byte)
  -- 45_control R226. JR cc,e8 (0x20 ...)
  | jr_NZ_e8 (e : Byte) | jr_Z_e8 (e : Byte) | jr_NC_e8 (e : Byte) | jr_C_e8 (e : Byte)
  -- 45_control R227. CALL a16 (0xCD)
  | call_a16 (nn : Addr)
  -- 45_control R228. CALL cc,a16 (0xC4 ...)
  | call_NZ_a16 (nn : Addr) | call_Z_a16 (nn : Addr) | call_NC_a16 (nn : Addr) | call_C_a16 (nn : Addr)
  -- 45_control R229. RET (0xC9)
  | ret
  -- 45_control R230. RET cc (0xC0 ...)
  | ret_NZ | ret_Z | ret_NC | ret_C
  -- 45_control R231. RST t (0xC7 ...)
  | rst_00h | rst_08h | rst_10h | rst_18h | rst_20h | rst_28h | rst_30h | rst_38h
  -- 30_encoding R64. The CB prefix (0xCB)
  | prefix_CB (cb : Byte)
  -- 46_misc R240. SWAP r (0xCB30 ...)
  | swap_B | swap_C | swap_D | swap_E | swap_H | swap_L | swap_A
  -- 46_misc R241. DAA (0x27)
  | daa
  -- 46_misc R242. CPL (0x2F)
  | cpl
  -- 46_misc R243. CCF (0x3F)
  | ccf
  -- 46_misc R244. SCF (0x37)
  | scf
  -- 46_misc R245. SWAP (HL) (0xCB36)
  | swap_atHL
  -- 46_misc R246. NOP (0x00)
  | nop
  -- 46_misc R247. HALT (0x76) (0x76)
  | halt
  -- 46_misc R248. STOP (0x10) (0x10)
  | stop
  -- 46_misc R249. DI (0xF3) (0xF3)
  | di
  -- 46_misc R250. EI (0xFB) (0xFB)
  | ei
  -- 46_misc R251. RETI (0xD9) (0xD9)
  | reti
  -- 46_misc R252. ILLEGAL (0xD3 ...)
  | illegal_D3 | illegal_DB | illegal_DD | illegal_E3 | illegal_E4 | illegal_EB | illegal_EC | illegal_ED
  | illegal_F4 | illegal_FC | illegal_FD
  -- 43_rotate_shift R190. RLCA (0x07)
  | rlca
  -- 43_rotate_shift R191. RRCA (0x0F)
  | rrca
  -- 43_rotate_shift R192. RLA (0x17)
  | rla
  -- 43_rotate_shift R193. RRA (0x1F)
  | rra
  -- 43_rotate_shift R195. RLC r (0xCB00 ...)
  | rlc_B | rlc_C | rlc_D | rlc_E | rlc_H | rlc_L | rlc_A
  -- 43_rotate_shift R196. RLC (HL) (0xCB06)
  | rlc_atHL
  -- 43_rotate_shift R197. RRC r (0xCB08 ...)
  | rrc_B | rrc_C | rrc_D | rrc_E | rrc_H | rrc_L | rrc_A
  -- 43_rotate_shift R198. RRC (HL) (0xCB0E)
  | rrc_atHL
  -- 43_rotate_shift R199. RL r (0xCB10 ...)
  | rl_B | rl_C | rl_D | rl_E | rl_H | rl_L | rl_A
  -- 43_rotate_shift R200. RL (HL) (0xCB16)
  | rl_atHL
  -- 43_rotate_shift R201. RR r (0xCB18 ...)
  | rr_B | rr_C | rr_D | rr_E | rr_H | rr_L | rr_A
  -- 43_rotate_shift R202. RR (HL) (0xCB1E)
  | rr_atHL
  -- 43_rotate_shift R203. SLA r (0xCB20 ...)
  | sla_B | sla_C | sla_D | sla_E | sla_H | sla_L | sla_A
  -- 43_rotate_shift R204. SLA (HL) (0xCB26)
  | sla_atHL
  -- 43_rotate_shift R205. SRA r (0xCB28 ...)
  | sra_B | sra_C | sra_D | sra_E | sra_H | sra_L | sra_A
  -- 43_rotate_shift R206. SRA (HL) (0xCB2E)
  | sra_atHL
  -- 43_rotate_shift R207. SRL r (0xCB38 ...)
  | srl_B | srl_C | srl_D | srl_E | srl_H | srl_L | srl_A
  -- 43_rotate_shift R208. SRL (HL) (0xCB3E)
  | srl_atHL
  -- 44_bit R211. BIT b,r (0xCB40 ...)
  | bit_0_B | bit_0_C | bit_0_D | bit_0_E | bit_0_H | bit_0_L | bit_0_A | bit_1_B | bit_1_C | bit_1_D
  | bit_1_E | bit_1_H | bit_1_L | bit_1_A | bit_2_B | bit_2_C | bit_2_D | bit_2_E | bit_2_H | bit_2_L
  | bit_2_A | bit_3_B | bit_3_C | bit_3_D | bit_3_E | bit_3_H | bit_3_L | bit_3_A | bit_4_B | bit_4_C
  | bit_4_D | bit_4_E | bit_4_H | bit_4_L | bit_4_A | bit_5_B | bit_5_C | bit_5_D | bit_5_E | bit_5_H
  | bit_5_L | bit_5_A | bit_6_B | bit_6_C | bit_6_D | bit_6_E | bit_6_H | bit_6_L | bit_6_A | bit_7_B
  | bit_7_C | bit_7_D | bit_7_E | bit_7_H | bit_7_L | bit_7_A
  -- 44_bit R212. BIT b,(HL) (0xCB46 ...)
  | bit_0_atHL | bit_1_atHL | bit_2_atHL | bit_3_atHL | bit_4_atHL | bit_5_atHL | bit_6_atHL | bit_7_atHL
  -- 44_bit R213. RES b,r (0xCB80 ...)
  | res_0_B | res_0_C | res_0_D | res_0_E | res_0_H | res_0_L | res_0_A | res_1_B | res_1_C | res_1_D
  | res_1_E | res_1_H | res_1_L | res_1_A | res_2_B | res_2_C | res_2_D | res_2_E | res_2_H | res_2_L
  | res_2_A | res_3_B | res_3_C | res_3_D | res_3_E | res_3_H | res_3_L | res_3_A | res_4_B | res_4_C
  | res_4_D | res_4_E | res_4_H | res_4_L | res_4_A | res_5_B | res_5_C | res_5_D | res_5_E | res_5_H
  | res_5_L | res_5_A | res_6_B | res_6_C | res_6_D | res_6_E | res_6_H | res_6_L | res_6_A | res_7_B
  | res_7_C | res_7_D | res_7_E | res_7_H | res_7_L | res_7_A
  -- 44_bit R214. RES b,(HL) (0xCB86 ...)
  | res_0_atHL | res_1_atHL | res_2_atHL | res_3_atHL | res_4_atHL | res_5_atHL | res_6_atHL | res_7_atHL
  -- 44_bit R215. SET b,r (0xCBC0 ...)
  | set_0_B | set_0_C | set_0_D | set_0_E | set_0_H | set_0_L | set_0_A | set_1_B | set_1_C | set_1_D
  | set_1_E | set_1_H | set_1_L | set_1_A | set_2_B | set_2_C | set_2_D | set_2_E | set_2_H | set_2_L
  | set_2_A | set_3_B | set_3_C | set_3_D | set_3_E | set_3_H | set_3_L | set_3_A | set_4_B | set_4_C
  | set_4_D | set_4_E | set_4_H | set_4_L | set_4_A | set_5_B | set_5_C | set_5_D | set_5_E | set_5_H
  | set_5_L | set_5_A | set_6_B | set_6_C | set_6_D | set_6_E | set_6_H | set_6_L | set_6_A | set_7_B
  | set_7_C | set_7_D | set_7_E | set_7_H | set_7_L | set_7_A
  -- 44_bit R216. SET b,(HL) (0xCBC6 ...)
  | set_0_atHL | set_1_atHL | set_2_atHL | set_3_atHL | set_4_atHL | set_5_atHL | set_6_atHL | set_7_atHL
deriving DecidableEq, Repr

end Sys2Proof
end

