-- ==== Sys2Proof/WellFormed.lean ====
section
/-! DEFINITION. Which terms of Instr are instructions. Every field of an instruction is a byte, a u16 or a constructor
of its own, so no operand can be out of range; one row of the table is no instruction. -/

namespace Sys2Proof

/-- All terms but the prefix row: "0xCB on its own is not an instruction" (spec/30_encoding.md R64), and the pair of
0xCB and a CB byte is the instruction of that CB byte's own row (R69, R80). -/
def Instr.wf (i : Instr) : Bool :=
  match i with
  | .prefix_CB _ => false
  | _ => true

end Sys2Proof
end

