-- ==== Sys2Proof/Decode.lean ====
section
/-! DEFINITION. Decode and encode (spec/30_encoding.md R60-R80). The decoder goes by the fields x, y, z of the opcode
and of the CB byte (R64, R70-R77). The encoder is written from the opcode maps R78, R79 and R80, byte by byte, so that
the round trip compares the two. -/

namespace Sys2Proof

/-! ## Bytes and words -/

/-- `{hi, lo}` = `(hi << 8) | lo` (spec/00_scope.md R8). -/
def word16 (hi lo : Byte) : Addr := (hi.setWidth 16 <<< 8) ||| lo.setWidth 16

/-- Bits 15:8 of a u16. -/
def hiByte (v : Addr) : Byte := (v >>> 8).setWidth 8

/-- Bits 7:0 of a u16. -/
def loByte (v : Addr) : Byte := v.setWidth 8

/-! ## Fields -/

/-- The field value of a number below 8 (its last three bits). -/
def Field3.ofNumber (n : Nat) : Field3 :=
  match n % 8 with
  | 0 => .b0 | 1 => .b1 | 2 => .b2 | 3 => .b3 | 4 => .b4 | 5 => .b5 | 6 => .b6 | _ => .b7

/-- y = op[5:3] and z = op[2:0]. -/
def fieldY (op : Byte) : Field3 := .ofNumber (op.toNat / 8)
def fieldZ (op : Byte) : Field3 := .ofNumber op.toNat

/-- x = op[7:6], a number below 4. -/
def fieldX (op : Byte) : Nat := op.toNat / 64

/-- q = op[3], the low bit of y. -/
def Field3.q : Field3 → Bool
  | .b0 | .b2 | .b4 | .b6 => false
  | .b1 | .b3 | .b5 | .b7 => true

/-- The r field (R70). -/
def RField.ofField : Field3 → RField
  | .b0 => .reg .B | .b1 => .reg .C | .b2 => .reg .D | .b3 => .reg .E
  | .b4 => .reg .H | .b5 => .reg .L | .b6 => .atHL | .b7 => .reg .A

/-- The rr field p = op[5:4] of y (R71). -/
def Reg16.ofY : Field3 → Reg16
  | .b0 | .b1 => .BC | .b2 | .b3 => .DE | .b4 | .b5 => .HL | .b6 | .b7 => .SP

/-- The qq field p of y (R72). -/
def StackReg.ofY : Field3 → StackReg
  | .b0 | .b1 => .BC | .b2 | .b3 => .DE | .b4 | .b5 => .HL | .b6 | .b7 => .AF

/-- The p field of the IND format (R77). -/
def IndPtr.ofY : Field3 → IndPtr
  | .b0 | .b1 => .BC | .b2 | .b3 => .DE | .b4 | .b5 => .HLinc | .b6 | .b7 => .HLdec

/-- The cc field op[4:3], the low two bits of y (R73). -/
def Cond.ofY : Field3 → Cond
  | .b0 | .b4 => .NZ | .b1 | .b5 => .Z | .b2 | .b6 => .NC | .b3 | .b7 => .C

/-- The ALU-op field (R74). -/
def AluOp.ofField : Field3 → AluOp
  | .b0 => .ADD | .b1 => .ADC | .b2 => .SUB | .b3 => .SBC | .b4 => .AND | .b5 => .XOR | .b6 => .OR | .b7 => .CP

/-- The rotate/shift field (R75). -/
def RotOp.ofField : Field3 → RotOp
  | .b0 => .RLC | .b1 => .RRC | .b2 => .RL | .b3 => .RR | .b4 => .SLA | .b5 => .SRA | .b6 => .SWAP | .b7 => .SRL

/-! ## The rows of a format by its field values (R77) -/

/-- LD r,r' (LDRR, both registers). -/
def Rows.ldReg (d r : Reg8) : Instr :=
  match d, r with
  | .B, .B => .ld_B_B | .B, .C => .ld_B_C | .B, .D => .ld_B_D | .B, .E => .ld_B_E | .B, .H => .ld_B_H
  | .B, .L => .ld_B_L | .B, .A => .ld_B_A | .C, .B => .ld_C_B | .C, .C => .ld_C_C | .C, .D => .ld_C_D
  | .C, .E => .ld_C_E | .C, .H => .ld_C_H | .C, .L => .ld_C_L | .C, .A => .ld_C_A | .D, .B => .ld_D_B
  | .D, .C => .ld_D_C | .D, .D => .ld_D_D | .D, .E => .ld_D_E | .D, .H => .ld_D_H | .D, .L => .ld_D_L
  | .D, .A => .ld_D_A | .E, .B => .ld_E_B | .E, .C => .ld_E_C | .E, .D => .ld_E_D | .E, .E => .ld_E_E
  | .E, .H => .ld_E_H | .E, .L => .ld_E_L | .E, .A => .ld_E_A | .H, .B => .ld_H_B | .H, .C => .ld_H_C
  | .H, .D => .ld_H_D | .H, .E => .ld_H_E | .H, .H => .ld_H_H | .H, .L => .ld_H_L | .H, .A => .ld_H_A
  | .L, .B => .ld_L_B | .L, .C => .ld_L_C | .L, .D => .ld_L_D | .L, .E => .ld_L_E | .L, .H => .ld_L_H
  | .L, .L => .ld_L_L | .L, .A => .ld_L_A | .A, .B => .ld_A_B | .A, .C => .ld_A_C | .A, .D => .ld_A_D
  | .A, .E => .ld_A_E | .A, .H => .ld_A_H | .A, .L => .ld_A_L | .A, .A => .ld_A_A

/-- LD r,d8 (R8I). -/
def Rows.ldImm (d : Reg8) (n : Byte) : Instr :=
  match d with
  | .B => .ld_B_d8 n | .C => .ld_C_d8 n | .D => .ld_D_d8 n | .E => .ld_E_d8 n | .H => .ld_H_d8 n
  | .L => .ld_L_d8 n | .A => .ld_A_d8 n

/-- LD r,(HL). -/
def Rows.ldFromHL (d : Reg8) : Instr :=
  match d with
  | .B => .ld_B_atHL | .C => .ld_C_atHL | .D => .ld_D_atHL | .E => .ld_E_atHL | .H => .ld_H_atHL
  | .L => .ld_L_atHL | .A => .ld_A_atHL

/-- LD (HL),r. -/
def Rows.ldToHL (r : Reg8) : Instr :=
  match r with
  | .B => .ld_atHL_B | .C => .ld_atHL_C | .D => .ld_atHL_D | .E => .ld_atHL_E | .H => .ld_atHL_H
  | .L => .ld_atHL_L | .A => .ld_atHL_A

/-- LD A through a pointer (IND, k = 1). -/
def Rows.ldAInd (p : IndPtr) : Instr :=
  match p with
  | .BC => .ld_A_atBC | .DE => .ld_A_atDE | .HLinc => .ld_A_atHLinc | .HLdec => .ld_A_atHLdec

/-- LD of A through a pointer (IND, k = 0). -/
def Rows.ldIndA (p : IndPtr) : Instr :=
  match p with
  | .BC => .ld_atBC_A | .DE => .ld_atDE_A | .HLinc => .ld_atHLinc_A | .HLdec => .ld_atHLdec_A

/-- LD rr,d16 (RR16I). -/
def Rows.ldPair (rr : Reg16) (nn : Addr) : Instr :=
  match rr with
  | .BC => .ld_BC_d16 nn | .DE => .ld_DE_d16 nn | .HL => .ld_HL_d16 nn | .SP => .ld_SP_d16 nn

/-- PUSH qq and POP qq (STK). -/
def Rows.push (qq : StackReg) : Instr :=
  match qq with
  | .BC => .push_BC | .DE => .push_DE | .HL => .push_HL | .AF => .push_AF

def Rows.pop (qq : StackReg) : Instr :=
  match qq with
  | .BC => .pop_BC | .DE => .pop_DE | .HL => .pop_HL | .AF => .pop_AF

/-- The ALU on a register (ALUR), on the byte at HL, and on an immediate (ALUI). -/
def Rows.aluReg (op : AluOp) (r : Reg8) : Instr :=
  match op, r with
  | .ADD, .B => .add_A_B | .ADD, .C => .add_A_C | .ADD, .D => .add_A_D | .ADD, .E => .add_A_E
  | .ADD, .H => .add_A_H | .ADD, .L => .add_A_L | .ADD, .A => .add_A_A | .ADC, .B => .adc_A_B
  | .ADC, .C => .adc_A_C | .ADC, .D => .adc_A_D | .ADC, .E => .adc_A_E | .ADC, .H => .adc_A_H
  | .ADC, .L => .adc_A_L | .ADC, .A => .adc_A_A | .SUB, .B => .sub_B | .SUB, .C => .sub_C | .SUB, .D => .sub_D
  | .SUB, .E => .sub_E | .SUB, .H => .sub_H | .SUB, .L => .sub_L | .SUB, .A => .sub_A | .SBC, .B => .sbc_A_B
  | .SBC, .C => .sbc_A_C | .SBC, .D => .sbc_A_D | .SBC, .E => .sbc_A_E | .SBC, .H => .sbc_A_H
  | .SBC, .L => .sbc_A_L | .SBC, .A => .sbc_A_A | .AND, .B => .and_B | .AND, .C => .and_C | .AND, .D => .and_D
  | .AND, .E => .and_E | .AND, .H => .and_H | .AND, .L => .and_L | .AND, .A => .and_A | .XOR, .B => .xor_B
  | .XOR, .C => .xor_C | .XOR, .D => .xor_D | .XOR, .E => .xor_E | .XOR, .H => .xor_H | .XOR, .L => .xor_L
  | .XOR, .A => .xor_A | .OR, .B => .or_B | .OR, .C => .or_C | .OR, .D => .or_D | .OR, .E => .or_E
  | .OR, .H => .or_H | .OR, .L => .or_L | .OR, .A => .or_A | .CP, .B => .cp_B | .CP, .C => .cp_C
  | .CP, .D => .cp_D | .CP, .E => .cp_E | .CP, .H => .cp_H | .CP, .L => .cp_L | .CP, .A => .cp_A

def Rows.aluAtHL (op : AluOp) : Instr :=
  match op with
  | .ADD => .add_A_atHL | .ADC => .adc_A_atHL | .SUB => .sub_atHL | .SBC => .sbc_A_atHL | .AND => .and_atHL
  | .XOR => .xor_atHL | .OR => .or_atHL | .CP => .cp_atHL

def Rows.aluImm (op : AluOp) (n : Byte) : Instr :=
  match op with
  | .ADD => .add_A_d8 n | .ADC => .adc_A_d8 n | .SUB => .sub_d8 n | .SBC => .sbc_A_d8 n | .AND => .and_d8 n
  | .XOR => .xor_d8 n | .OR => .or_d8 n | .CP => .cp_d8 n

/-- INC r and DEC r (INCDEC8). -/
def Rows.incReg (r : Reg8) : Instr :=
  match r with
  | .B => .inc_B | .C => .inc_C | .D => .inc_D | .E => .inc_E | .H => .inc_H | .L => .inc_L | .A => .inc_A

def Rows.decReg (r : Reg8) : Instr :=
  match r with
  | .B => .dec_B | .C => .dec_C | .D => .dec_D | .E => .dec_E | .H => .dec_H | .L => .dec_L | .A => .dec_A

/-- INC rr and DEC rr (RR16), ADD HL,rr (ADDHL). -/
def Rows.incPair (rr : Reg16) : Instr :=
  match rr with
  | .BC => .inc_BC | .DE => .inc_DE | .HL => .inc_HL | .SP => .inc_SP

def Rows.decPair (rr : Reg16) : Instr :=
  match rr with
  | .BC => .dec_BC | .DE => .dec_DE | .HL => .dec_HL | .SP => .dec_SP

def Rows.addHL (rr : Reg16) : Instr :=
  match rr with
  | .BC => .add_HL_BC | .DE => .add_HL_DE | .HL => .add_HL_HL | .SP => .add_HL_SP

/-- The CB rotates, shifts and SWAP on a register and on the byte at HL (CB, g = 00). -/
def Rows.rotReg (op : RotOp) (r : Reg8) : Instr :=
  match op, r with
  | .RLC, .B => .rlc_B | .RLC, .C => .rlc_C | .RLC, .D => .rlc_D | .RLC, .E => .rlc_E | .RLC, .H => .rlc_H
  | .RLC, .L => .rlc_L | .RLC, .A => .rlc_A | .RRC, .B => .rrc_B | .RRC, .C => .rrc_C | .RRC, .D => .rrc_D
  | .RRC, .E => .rrc_E | .RRC, .H => .rrc_H | .RRC, .L => .rrc_L | .RRC, .A => .rrc_A | .RL, .B => .rl_B
  | .RL, .C => .rl_C | .RL, .D => .rl_D | .RL, .E => .rl_E | .RL, .H => .rl_H | .RL, .L => .rl_L
  | .RL, .A => .rl_A | .RR, .B => .rr_B | .RR, .C => .rr_C | .RR, .D => .rr_D | .RR, .E => .rr_E
  | .RR, .H => .rr_H | .RR, .L => .rr_L | .RR, .A => .rr_A | .SLA, .B => .sla_B | .SLA, .C => .sla_C
  | .SLA, .D => .sla_D | .SLA, .E => .sla_E | .SLA, .H => .sla_H | .SLA, .L => .sla_L | .SLA, .A => .sla_A
  | .SRA, .B => .sra_B | .SRA, .C => .sra_C | .SRA, .D => .sra_D | .SRA, .E => .sra_E | .SRA, .H => .sra_H
  | .SRA, .L => .sra_L | .SRA, .A => .sra_A | .SWAP, .B => .swap_B | .SWAP, .C => .swap_C
  | .SWAP, .D => .swap_D | .SWAP, .E => .swap_E | .SWAP, .H => .swap_H | .SWAP, .L => .swap_L
  | .SWAP, .A => .swap_A | .SRL, .B => .srl_B | .SRL, .C => .srl_C | .SRL, .D => .srl_D | .SRL, .E => .srl_E
  | .SRL, .H => .srl_H | .SRL, .L => .srl_L | .SRL, .A => .srl_A

def Rows.rotAtHL (op : RotOp) : Instr :=
  match op with
  | .RLC => .rlc_atHL | .RRC => .rrc_atHL | .RL => .rl_atHL | .RR => .rr_atHL | .SLA => .sla_atHL
  | .SRA => .sra_atHL | .SWAP => .swap_atHL | .SRL => .srl_atHL

/-- BIT, RES and SET on a register and on the byte at HL (CB, g = 01, 10, 11). -/
def Rows.testReg (b : Field3) (r : Reg8) : Instr :=
  match b, r with
  | .b0, .B => .bit_0_B | .b0, .C => .bit_0_C | .b0, .D => .bit_0_D | .b0, .E => .bit_0_E | .b0, .H => .bit_0_H
  | .b0, .L => .bit_0_L | .b0, .A => .bit_0_A | .b1, .B => .bit_1_B | .b1, .C => .bit_1_C | .b1, .D => .bit_1_D
  | .b1, .E => .bit_1_E | .b1, .H => .bit_1_H | .b1, .L => .bit_1_L | .b1, .A => .bit_1_A | .b2, .B => .bit_2_B
  | .b2, .C => .bit_2_C | .b2, .D => .bit_2_D | .b2, .E => .bit_2_E | .b2, .H => .bit_2_H | .b2, .L => .bit_2_L
  | .b2, .A => .bit_2_A | .b3, .B => .bit_3_B | .b3, .C => .bit_3_C | .b3, .D => .bit_3_D | .b3, .E => .bit_3_E
  | .b3, .H => .bit_3_H | .b3, .L => .bit_3_L | .b3, .A => .bit_3_A | .b4, .B => .bit_4_B | .b4, .C => .bit_4_C
  | .b4, .D => .bit_4_D | .b4, .E => .bit_4_E | .b4, .H => .bit_4_H | .b4, .L => .bit_4_L | .b4, .A => .bit_4_A
  | .b5, .B => .bit_5_B | .b5, .C => .bit_5_C | .b5, .D => .bit_5_D | .b5, .E => .bit_5_E | .b5, .H => .bit_5_H
  | .b5, .L => .bit_5_L | .b5, .A => .bit_5_A | .b6, .B => .bit_6_B | .b6, .C => .bit_6_C | .b6, .D => .bit_6_D
  | .b6, .E => .bit_6_E | .b6, .H => .bit_6_H | .b6, .L => .bit_6_L | .b6, .A => .bit_6_A | .b7, .B => .bit_7_B
  | .b7, .C => .bit_7_C | .b7, .D => .bit_7_D | .b7, .E => .bit_7_E | .b7, .H => .bit_7_H | .b7, .L => .bit_7_L
  | .b7, .A => .bit_7_A

def Rows.resetReg (b : Field3) (r : Reg8) : Instr :=
  match b, r with
  | .b0, .B => .res_0_B | .b0, .C => .res_0_C | .b0, .D => .res_0_D | .b0, .E => .res_0_E | .b0, .H => .res_0_H
  | .b0, .L => .res_0_L | .b0, .A => .res_0_A | .b1, .B => .res_1_B | .b1, .C => .res_1_C | .b1, .D => .res_1_D
  | .b1, .E => .res_1_E | .b1, .H => .res_1_H | .b1, .L => .res_1_L | .b1, .A => .res_1_A | .b2, .B => .res_2_B
  | .b2, .C => .res_2_C | .b2, .D => .res_2_D | .b2, .E => .res_2_E | .b2, .H => .res_2_H | .b2, .L => .res_2_L
  | .b2, .A => .res_2_A | .b3, .B => .res_3_B | .b3, .C => .res_3_C | .b3, .D => .res_3_D | .b3, .E => .res_3_E
  | .b3, .H => .res_3_H | .b3, .L => .res_3_L | .b3, .A => .res_3_A | .b4, .B => .res_4_B | .b4, .C => .res_4_C
  | .b4, .D => .res_4_D | .b4, .E => .res_4_E | .b4, .H => .res_4_H | .b4, .L => .res_4_L | .b4, .A => .res_4_A
  | .b5, .B => .res_5_B | .b5, .C => .res_5_C | .b5, .D => .res_5_D | .b5, .E => .res_5_E | .b5, .H => .res_5_H
  | .b5, .L => .res_5_L | .b5, .A => .res_5_A | .b6, .B => .res_6_B | .b6, .C => .res_6_C | .b6, .D => .res_6_D
  | .b6, .E => .res_6_E | .b6, .H => .res_6_H | .b6, .L => .res_6_L | .b6, .A => .res_6_A | .b7, .B => .res_7_B
  | .b7, .C => .res_7_C | .b7, .D => .res_7_D | .b7, .E => .res_7_E | .b7, .H => .res_7_H | .b7, .L => .res_7_L
  | .b7, .A => .res_7_A

def Rows.setReg (b : Field3) (r : Reg8) : Instr :=
  match b, r with
  | .b0, .B => .set_0_B | .b0, .C => .set_0_C | .b0, .D => .set_0_D | .b0, .E => .set_0_E | .b0, .H => .set_0_H
  | .b0, .L => .set_0_L | .b0, .A => .set_0_A | .b1, .B => .set_1_B | .b1, .C => .set_1_C | .b1, .D => .set_1_D
  | .b1, .E => .set_1_E | .b1, .H => .set_1_H | .b1, .L => .set_1_L | .b1, .A => .set_1_A | .b2, .B => .set_2_B
  | .b2, .C => .set_2_C | .b2, .D => .set_2_D | .b2, .E => .set_2_E | .b2, .H => .set_2_H | .b2, .L => .set_2_L
  | .b2, .A => .set_2_A | .b3, .B => .set_3_B | .b3, .C => .set_3_C | .b3, .D => .set_3_D | .b3, .E => .set_3_E
  | .b3, .H => .set_3_H | .b3, .L => .set_3_L | .b3, .A => .set_3_A | .b4, .B => .set_4_B | .b4, .C => .set_4_C
  | .b4, .D => .set_4_D | .b4, .E => .set_4_E | .b4, .H => .set_4_H | .b4, .L => .set_4_L | .b4, .A => .set_4_A
  | .b5, .B => .set_5_B | .b5, .C => .set_5_C | .b5, .D => .set_5_D | .b5, .E => .set_5_E | .b5, .H => .set_5_H
  | .b5, .L => .set_5_L | .b5, .A => .set_5_A | .b6, .B => .set_6_B | .b6, .C => .set_6_C | .b6, .D => .set_6_D
  | .b6, .E => .set_6_E | .b6, .H => .set_6_H | .b6, .L => .set_6_L | .b6, .A => .set_6_A | .b7, .B => .set_7_B
  | .b7, .C => .set_7_C | .b7, .D => .set_7_D | .b7, .E => .set_7_E | .b7, .H => .set_7_H | .b7, .L => .set_7_L
  | .b7, .A => .set_7_A

def Rows.testAtHL (b : Field3) : Instr :=
  match b with
  | .b0 => .bit_0_atHL | .b1 => .bit_1_atHL | .b2 => .bit_2_atHL | .b3 => .bit_3_atHL | .b4 => .bit_4_atHL
  | .b5 => .bit_5_atHL | .b6 => .bit_6_atHL | .b7 => .bit_7_atHL

def Rows.resetAtHL (b : Field3) : Instr :=
  match b with
  | .b0 => .res_0_atHL | .b1 => .res_1_atHL | .b2 => .res_2_atHL | .b3 => .res_3_atHL | .b4 => .res_4_atHL
  | .b5 => .res_5_atHL | .b6 => .res_6_atHL | .b7 => .res_7_atHL

def Rows.setAtHL (b : Field3) : Instr :=
  match b with
  | .b0 => .set_0_atHL | .b1 => .set_1_atHL | .b2 => .set_2_atHL | .b3 => .set_3_atHL | .b4 => .set_4_atHL
  | .b5 => .set_5_atHL | .b6 => .set_6_atHL | .b7 => .set_7_atHL

/-- The conditional transfers (CC, JRCC) and RST. -/
def Rows.jpIf (cc : Cond) (nn : Addr) : Instr :=
  match cc with
  | .NZ => .jp_NZ_a16 nn | .Z => .jp_Z_a16 nn | .NC => .jp_NC_a16 nn | .C => .jp_C_a16 nn

def Rows.jrIf (cc : Cond) (e : Byte) : Instr :=
  match cc with
  | .NZ => .jr_NZ_e8 e | .Z => .jr_Z_e8 e | .NC => .jr_NC_e8 e | .C => .jr_C_e8 e

def Rows.callIf (cc : Cond) (nn : Addr) : Instr :=
  match cc with
  | .NZ => .call_NZ_a16 nn | .Z => .call_Z_a16 nn | .NC => .call_NC_a16 nn | .C => .call_C_a16 nn

def Rows.retIf (cc : Cond) : Instr :=
  match cc with
  | .NZ => .ret_NZ | .Z => .ret_Z | .NC => .ret_NC | .C => .ret_C

def Rows.rst (t : Field3) : Instr :=
  match t with
  | .b0 => .rst_00h | .b1 => .rst_08h | .b2 => .rst_10h | .b3 => .rst_18h | .b4 => .rst_20h | .b5 => .rst_28h
  | .b6 => .rst_30h | .b7 => .rst_38h

/-! ## The decoder -/

/-- `01 yyy zzz`: the moves, and HALT where both fields are 6 (R77). -/
def decodeMove (d r : RField) : Instr :=
  match d, r with
  | .reg d, .reg r => Rows.ldReg d r
  | .reg d, .atHL => Rows.ldFromHL d
  | .atHL, .reg r => Rows.ldToHL r
  | .atHL, .atHL => .halt

/-- `10 aaa sss` (ALUR). -/
def decodeAlu (op : AluOp) (r : RField) : Instr :=
  match r with
  | .reg r => Rows.aluReg op r
  | .atHL => Rows.aluAtHL op

/-- Opcodes with x = 0. -/
def decodeX0 (y z : Field3) (b1 b2 : Byte) : Instr :=
  match z with
  | .b0 =>
    match y with
    | .b0 => .nop
    | .b1 => .ld_a16_SP (word16 b2 b1)
    | .b2 => .stop
    | .b3 => .jr_e8 b1
    | .b4 | .b5 | .b6 | .b7 => Rows.jrIf (.ofY y) b1
  | .b1 => if y.q then Rows.addHL (.ofY y) else Rows.ldPair (.ofY y) (word16 b2 b1)
  | .b2 => if y.q then Rows.ldAInd (.ofY y) else Rows.ldIndA (.ofY y)
  | .b3 => if y.q then Rows.decPair (.ofY y) else Rows.incPair (.ofY y)
  | .b4 =>
    match RField.ofField y with
    | .reg r => Rows.incReg r
    | .atHL => .inc_atHL
  | .b5 =>
    match RField.ofField y with
    | .reg r => Rows.decReg r
    | .atHL => .dec_atHL
  | .b6 =>
    match RField.ofField y with
    | .reg r => Rows.ldImm r b1
    | .atHL => .ld_atHL_d8 b1
  | .b7 =>
    match y with
    | .b0 => .rlca | .b1 => .rrca | .b2 => .rla | .b3 => .rra
    | .b4 => .daa | .b5 => .cpl | .b6 => .scf | .b7 => .ccf

/-- The instruction a CB byte selects (R64, R80). -/
def decodeCB (cb : Byte) : Instr :=
  match fieldX cb, RField.ofField (fieldZ cb) with
  | 0, .reg r => Rows.rotReg (.ofField (fieldY cb)) r
  | 0, .atHL => Rows.rotAtHL (.ofField (fieldY cb))
  | 1, .reg r => Rows.testReg (fieldY cb) r
  | 1, .atHL => Rows.testAtHL (fieldY cb)
  | 2, .reg r => Rows.resetReg (fieldY cb) r
  | 2, .atHL => Rows.resetAtHL (fieldY cb)
  | _, .reg r => Rows.setReg (fieldY cb) r
  | _, .atHL => Rows.setAtHL (fieldY cb)

/-- Opcodes with x = 3; the unassigned ones are the ILLEGAL rows (R79). -/
def decodeX3 (y z : Field3) (b1 b2 : Byte) : Instr :=
  match z with
  | .b0 =>
    match y with
    | .b0 | .b1 | .b2 | .b3 => Rows.retIf (.ofY y)
    | .b4 => .ldh_a8_A b1
    | .b5 => .add_SP_e8 b1
    | .b6 => .ldh_A_a8 b1
    | .b7 => .ld_HL_SPe8 b1
  | .b1 =>
    match y with
    | .b0 | .b2 | .b4 | .b6 => Rows.pop (.ofY y)
    | .b1 => .ret | .b3 => .reti | .b5 => .jp_HL | .b7 => .ld_SP_HL
  | .b2 =>
    match y with
    | .b0 | .b1 | .b2 | .b3 => Rows.jpIf (.ofY y) (word16 b2 b1)
    | .b4 => .ld_atC_A
    | .b5 => .ld_a16_A (word16 b2 b1)
    | .b6 => .ld_A_atC
    | .b7 => .ld_A_a16 (word16 b2 b1)
  | .b3 =>
    match y with
    | .b0 => .jp_a16 (word16 b2 b1)
    | .b1 => decodeCB b1
    | .b2 => .illegal_D3 | .b3 => .illegal_DB | .b4 => .illegal_E3 | .b5 => .illegal_EB
    | .b6 => .di
    | .b7 => .ei
  | .b4 =>
    match y with
    | .b0 | .b1 | .b2 | .b3 => Rows.callIf (.ofY y) (word16 b2 b1)
    | .b4 => .illegal_E4 | .b5 => .illegal_EC | .b6 => .illegal_F4 | .b7 => .illegal_FC
  | .b5 =>
    match y with
    | .b0 | .b2 | .b4 | .b6 => Rows.push (.ofY y)
    | .b1 => .call_a16 (word16 b2 b1)
    | .b3 => .illegal_DD | .b5 => .illegal_ED | .b7 => .illegal_FD
  | .b6 => Rows.aluImm (.ofField y) b1
  | .b7 => Rows.rst y

/-- The row of the opcode `op` with the bytes `b1`, `b2` after it, whichever of them it has (R61-R69). Every opcode
has a row; imm16 is `{b2, b1}` (R66). -/
def decodeInsn (op b1 b2 : Byte) : Instr :=
  match fieldX op with
  | 0 => decodeX0 (fieldY op) (fieldZ op) b1 b2
  | 1 => decodeMove (.ofField (fieldY op)) (.ofField (fieldZ op))
  | 2 => decodeAlu (.ofField (fieldY op)) (.ofField (fieldZ op))
  | _ => decodeX3 (fieldY op) (fieldZ op) b1 b2

/-- The opcodes of three bytes (R63). -/
def threeByteOps : List Byte :=
  [0x01, 0x11, 0x21, 0x31, 0x08, 0xC2, 0xC3, 0xCA, 0xD2, 0xDA, 0xC4, 0xCC, 0xCD, 0xD4, 0xDC, 0xEA, 0xFA]

/-- The opcodes of two bytes, 0xCB with its CB byte among them (R63). -/
def twoByteOps : List Byte :=
  [0x06, 0x0E, 0x16, 0x1E, 0x26, 0x2E, 0x36, 0x3E, 0x18, 0x20, 0x28, 0x30, 0x38,
   0xC6, 0xCE, 0xD6, 0xDE, 0xE6, 0xEE, 0xF6, 0xFE, 0xE0, 0xF0, 0xE8, 0xF8, 0xCB]

/-- How many bytes follow the opcode: `LEN(op) - 1` (R63). STOP counts as one byte (D32). -/
def operandBytes (op : Byte) : Nat :=
  if threeByteOps.contains op then 2 else if twoByteOps.contains op then 1 else 0

/-- Why a list of bytes is no instruction: it is empty, or it ends inside the instruction of its opcode. -/
inductive DecodeError where
  | empty
  | truncated (op : Byte)
deriving DecidableEq, Repr

/-- Decode the first instruction of a list of bytes, with the bytes after it. Total: a list that holds a whole
instruction always decodes (R69). -/
def decode (bytes : List Byte) : Except DecodeError (Instr × List Byte) :=
  match bytes with
  | [] => .error .empty
  | op :: rest =>
    match operandBytes op, rest with
    | 0, rest => .ok (decodeInsn op 0 0, rest)
    | 1, b1 :: rest => .ok (decodeInsn op b1 0, rest)
    | 2, b1 :: b2 :: rest => .ok (decodeInsn op b1 b2, rest)
    | _, _ => .error (.truncated op)

/-! ## The encoder -/

/-- The bytes of an instruction in fetch order, from the opcode maps R78, R79 and R80. -/
def encode (i : Instr) : List Byte :=
  match i with
  | .nop => [0x00] | .ld_BC_d16 nn => [0x01, loByte nn, hiByte nn] | .ld_atBC_A => [0x02] | .inc_BC => [0x03]
  | .inc_B => [0x04] | .dec_B => [0x05] | .ld_B_d8 n => [0x06, n] | .rlca => [0x07]
  | .ld_a16_SP nn => [0x08, loByte nn, hiByte nn] | .add_HL_BC => [0x09] | .ld_A_atBC => [0x0A]
  | .dec_BC => [0x0B] | .inc_C => [0x0C] | .dec_C => [0x0D] | .ld_C_d8 n => [0x0E, n] | .rrca => [0x0F]
  | .stop => [0x10] | .ld_DE_d16 nn => [0x11, loByte nn, hiByte nn] | .ld_atDE_A => [0x12] | .inc_DE => [0x13]
  | .inc_D => [0x14] | .dec_D => [0x15] | .ld_D_d8 n => [0x16, n] | .rla => [0x17] | .jr_e8 e => [0x18, e]
  | .add_HL_DE => [0x19] | .ld_A_atDE => [0x1A] | .dec_DE => [0x1B] | .inc_E => [0x1C] | .dec_E => [0x1D]
  | .ld_E_d8 n => [0x1E, n] | .rra => [0x1F] | .jr_NZ_e8 e => [0x20, e]
  | .ld_HL_d16 nn => [0x21, loByte nn, hiByte nn] | .ld_atHLinc_A => [0x22] | .inc_HL => [0x23]
  | .inc_H => [0x24] | .dec_H => [0x25] | .ld_H_d8 n => [0x26, n] | .daa => [0x27] | .jr_Z_e8 e => [0x28, e]
  | .add_HL_HL => [0x29] | .ld_A_atHLinc => [0x2A] | .dec_HL => [0x2B] | .inc_L => [0x2C] | .dec_L => [0x2D]
  | .ld_L_d8 n => [0x2E, n] | .cpl => [0x2F] | .jr_NC_e8 e => [0x30, e]
  | .ld_SP_d16 nn => [0x31, loByte nn, hiByte nn] | .ld_atHLdec_A => [0x32] | .inc_SP => [0x33]
  | .inc_atHL => [0x34] | .dec_atHL => [0x35] | .ld_atHL_d8 n => [0x36, n] | .scf => [0x37]
  | .jr_C_e8 e => [0x38, e] | .add_HL_SP => [0x39] | .ld_A_atHLdec => [0x3A] | .dec_SP => [0x3B]
  | .inc_A => [0x3C] | .dec_A => [0x3D] | .ld_A_d8 n => [0x3E, n] | .ccf => [0x3F] | .ld_B_B => [0x40]
  | .ld_B_C => [0x41] | .ld_B_D => [0x42] | .ld_B_E => [0x43] | .ld_B_H => [0x44] | .ld_B_L => [0x45]
  | .ld_B_atHL => [0x46] | .ld_B_A => [0x47] | .ld_C_B => [0x48] | .ld_C_C => [0x49] | .ld_C_D => [0x4A]
  | .ld_C_E => [0x4B] | .ld_C_H => [0x4C] | .ld_C_L => [0x4D] | .ld_C_atHL => [0x4E] | .ld_C_A => [0x4F]
  | .ld_D_B => [0x50] | .ld_D_C => [0x51] | .ld_D_D => [0x52] | .ld_D_E => [0x53] | .ld_D_H => [0x54]
  | .ld_D_L => [0x55] | .ld_D_atHL => [0x56] | .ld_D_A => [0x57] | .ld_E_B => [0x58] | .ld_E_C => [0x59]
  | .ld_E_D => [0x5A] | .ld_E_E => [0x5B] | .ld_E_H => [0x5C] | .ld_E_L => [0x5D] | .ld_E_atHL => [0x5E]
  | .ld_E_A => [0x5F] | .ld_H_B => [0x60] | .ld_H_C => [0x61] | .ld_H_D => [0x62] | .ld_H_E => [0x63]
  | .ld_H_H => [0x64] | .ld_H_L => [0x65] | .ld_H_atHL => [0x66] | .ld_H_A => [0x67] | .ld_L_B => [0x68]
  | .ld_L_C => [0x69] | .ld_L_D => [0x6A] | .ld_L_E => [0x6B] | .ld_L_H => [0x6C] | .ld_L_L => [0x6D]
  | .ld_L_atHL => [0x6E] | .ld_L_A => [0x6F] | .ld_atHL_B => [0x70] | .ld_atHL_C => [0x71]
  | .ld_atHL_D => [0x72] | .ld_atHL_E => [0x73] | .ld_atHL_H => [0x74] | .ld_atHL_L => [0x75] | .halt => [0x76]
  | .ld_atHL_A => [0x77] | .ld_A_B => [0x78] | .ld_A_C => [0x79] | .ld_A_D => [0x7A] | .ld_A_E => [0x7B]
  | .ld_A_H => [0x7C] | .ld_A_L => [0x7D] | .ld_A_atHL => [0x7E] | .ld_A_A => [0x7F] | .add_A_B => [0x80]
  | .add_A_C => [0x81] | .add_A_D => [0x82] | .add_A_E => [0x83] | .add_A_H => [0x84] | .add_A_L => [0x85]
  | .add_A_atHL => [0x86] | .add_A_A => [0x87] | .adc_A_B => [0x88] | .adc_A_C => [0x89] | .adc_A_D => [0x8A]
  | .adc_A_E => [0x8B] | .adc_A_H => [0x8C] | .adc_A_L => [0x8D] | .adc_A_atHL => [0x8E] | .adc_A_A => [0x8F]
  | .sub_B => [0x90] | .sub_C => [0x91] | .sub_D => [0x92] | .sub_E => [0x93] | .sub_H => [0x94]
  | .sub_L => [0x95] | .sub_atHL => [0x96] | .sub_A => [0x97] | .sbc_A_B => [0x98] | .sbc_A_C => [0x99]
  | .sbc_A_D => [0x9A] | .sbc_A_E => [0x9B] | .sbc_A_H => [0x9C] | .sbc_A_L => [0x9D] | .sbc_A_atHL => [0x9E]
  | .sbc_A_A => [0x9F] | .and_B => [0xA0] | .and_C => [0xA1] | .and_D => [0xA2] | .and_E => [0xA3]
  | .and_H => [0xA4] | .and_L => [0xA5] | .and_atHL => [0xA6] | .and_A => [0xA7] | .xor_B => [0xA8]
  | .xor_C => [0xA9] | .xor_D => [0xAA] | .xor_E => [0xAB] | .xor_H => [0xAC] | .xor_L => [0xAD]
  | .xor_atHL => [0xAE] | .xor_A => [0xAF] | .or_B => [0xB0] | .or_C => [0xB1] | .or_D => [0xB2]
  | .or_E => [0xB3] | .or_H => [0xB4] | .or_L => [0xB5] | .or_atHL => [0xB6] | .or_A => [0xB7]
  | .cp_B => [0xB8] | .cp_C => [0xB9] | .cp_D => [0xBA] | .cp_E => [0xBB] | .cp_H => [0xBC] | .cp_L => [0xBD]
  | .cp_atHL => [0xBE] | .cp_A => [0xBF] | .ret_NZ => [0xC0] | .pop_BC => [0xC1]
  | .jp_NZ_a16 nn => [0xC2, loByte nn, hiByte nn] | .jp_a16 nn => [0xC3, loByte nn, hiByte nn]
  | .call_NZ_a16 nn => [0xC4, loByte nn, hiByte nn] | .push_BC => [0xC5] | .add_A_d8 n => [0xC6, n]
  | .rst_00h => [0xC7] | .ret_Z => [0xC8] | .ret => [0xC9] | .jp_Z_a16 nn => [0xCA, loByte nn, hiByte nn]
  | .prefix_CB cb => [0xCB, cb] | .call_Z_a16 nn => [0xCC, loByte nn, hiByte nn]
  | .call_a16 nn => [0xCD, loByte nn, hiByte nn] | .adc_A_d8 n => [0xCE, n] | .rst_08h => [0xCF]
  | .ret_NC => [0xD0] | .pop_DE => [0xD1] | .jp_NC_a16 nn => [0xD2, loByte nn, hiByte nn]
  | .illegal_D3 => [0xD3] | .call_NC_a16 nn => [0xD4, loByte nn, hiByte nn] | .push_DE => [0xD5]
  | .sub_d8 n => [0xD6, n] | .rst_10h => [0xD7] | .ret_C => [0xD8] | .reti => [0xD9]
  | .jp_C_a16 nn => [0xDA, loByte nn, hiByte nn] | .illegal_DB => [0xDB]
  | .call_C_a16 nn => [0xDC, loByte nn, hiByte nn] | .illegal_DD => [0xDD] | .sbc_A_d8 n => [0xDE, n]
  | .rst_18h => [0xDF] | .ldh_a8_A n => [0xE0, n] | .pop_HL => [0xE1] | .ld_atC_A => [0xE2]
  | .illegal_E3 => [0xE3] | .illegal_E4 => [0xE4] | .push_HL => [0xE5] | .and_d8 n => [0xE6, n]
  | .rst_20h => [0xE7] | .add_SP_e8 e => [0xE8, e] | .jp_HL => [0xE9]
  | .ld_a16_A nn => [0xEA, loByte nn, hiByte nn] | .illegal_EB => [0xEB] | .illegal_EC => [0xEC]
  | .illegal_ED => [0xED] | .xor_d8 n => [0xEE, n] | .rst_28h => [0xEF] | .ldh_A_a8 n => [0xF0, n]
  | .pop_AF => [0xF1] | .ld_A_atC => [0xF2] | .di => [0xF3] | .illegal_F4 => [0xF4] | .push_AF => [0xF5]
  | .or_d8 n => [0xF6, n] | .rst_30h => [0xF7] | .ld_HL_SPe8 e => [0xF8, e] | .ld_SP_HL => [0xF9]
  | .ld_A_a16 nn => [0xFA, loByte nn, hiByte nn] | .ei => [0xFB] | .illegal_FC => [0xFC]
  | .illegal_FD => [0xFD] | .cp_d8 n => [0xFE, n] | .rst_38h => [0xFF] | .rlc_B => [0xCB, 0x00]
  | .rlc_C => [0xCB, 0x01] | .rlc_D => [0xCB, 0x02] | .rlc_E => [0xCB, 0x03] | .rlc_H => [0xCB, 0x04]
  | .rlc_L => [0xCB, 0x05] | .rlc_atHL => [0xCB, 0x06] | .rlc_A => [0xCB, 0x07] | .rrc_B => [0xCB, 0x08]
  | .rrc_C => [0xCB, 0x09] | .rrc_D => [0xCB, 0x0A] | .rrc_E => [0xCB, 0x0B] | .rrc_H => [0xCB, 0x0C]
  | .rrc_L => [0xCB, 0x0D] | .rrc_atHL => [0xCB, 0x0E] | .rrc_A => [0xCB, 0x0F] | .rl_B => [0xCB, 0x10]
  | .rl_C => [0xCB, 0x11] | .rl_D => [0xCB, 0x12] | .rl_E => [0xCB, 0x13] | .rl_H => [0xCB, 0x14]
  | .rl_L => [0xCB, 0x15] | .rl_atHL => [0xCB, 0x16] | .rl_A => [0xCB, 0x17] | .rr_B => [0xCB, 0x18]
  | .rr_C => [0xCB, 0x19] | .rr_D => [0xCB, 0x1A] | .rr_E => [0xCB, 0x1B] | .rr_H => [0xCB, 0x1C]
  | .rr_L => [0xCB, 0x1D] | .rr_atHL => [0xCB, 0x1E] | .rr_A => [0xCB, 0x1F] | .sla_B => [0xCB, 0x20]
  | .sla_C => [0xCB, 0x21] | .sla_D => [0xCB, 0x22] | .sla_E => [0xCB, 0x23] | .sla_H => [0xCB, 0x24]
  | .sla_L => [0xCB, 0x25] | .sla_atHL => [0xCB, 0x26] | .sla_A => [0xCB, 0x27] | .sra_B => [0xCB, 0x28]
  | .sra_C => [0xCB, 0x29] | .sra_D => [0xCB, 0x2A] | .sra_E => [0xCB, 0x2B] | .sra_H => [0xCB, 0x2C]
  | .sra_L => [0xCB, 0x2D] | .sra_atHL => [0xCB, 0x2E] | .sra_A => [0xCB, 0x2F] | .swap_B => [0xCB, 0x30]
  | .swap_C => [0xCB, 0x31] | .swap_D => [0xCB, 0x32] | .swap_E => [0xCB, 0x33] | .swap_H => [0xCB, 0x34]
  | .swap_L => [0xCB, 0x35] | .swap_atHL => [0xCB, 0x36] | .swap_A => [0xCB, 0x37] | .srl_B => [0xCB, 0x38]
  | .srl_C => [0xCB, 0x39] | .srl_D => [0xCB, 0x3A] | .srl_E => [0xCB, 0x3B] | .srl_H => [0xCB, 0x3C]
  | .srl_L => [0xCB, 0x3D] | .srl_atHL => [0xCB, 0x3E] | .srl_A => [0xCB, 0x3F] | .bit_0_B => [0xCB, 0x40]
  | .bit_0_C => [0xCB, 0x41] | .bit_0_D => [0xCB, 0x42] | .bit_0_E => [0xCB, 0x43] | .bit_0_H => [0xCB, 0x44]
  | .bit_0_L => [0xCB, 0x45] | .bit_0_atHL => [0xCB, 0x46] | .bit_0_A => [0xCB, 0x47]
  | .bit_1_B => [0xCB, 0x48] | .bit_1_C => [0xCB, 0x49] | .bit_1_D => [0xCB, 0x4A] | .bit_1_E => [0xCB, 0x4B]
  | .bit_1_H => [0xCB, 0x4C] | .bit_1_L => [0xCB, 0x4D] | .bit_1_atHL => [0xCB, 0x4E]
  | .bit_1_A => [0xCB, 0x4F] | .bit_2_B => [0xCB, 0x50] | .bit_2_C => [0xCB, 0x51] | .bit_2_D => [0xCB, 0x52]
  | .bit_2_E => [0xCB, 0x53] | .bit_2_H => [0xCB, 0x54] | .bit_2_L => [0xCB, 0x55]
  | .bit_2_atHL => [0xCB, 0x56] | .bit_2_A => [0xCB, 0x57] | .bit_3_B => [0xCB, 0x58]
  | .bit_3_C => [0xCB, 0x59] | .bit_3_D => [0xCB, 0x5A] | .bit_3_E => [0xCB, 0x5B] | .bit_3_H => [0xCB, 0x5C]
  | .bit_3_L => [0xCB, 0x5D] | .bit_3_atHL => [0xCB, 0x5E] | .bit_3_A => [0xCB, 0x5F]
  | .bit_4_B => [0xCB, 0x60] | .bit_4_C => [0xCB, 0x61] | .bit_4_D => [0xCB, 0x62] | .bit_4_E => [0xCB, 0x63]
  | .bit_4_H => [0xCB, 0x64] | .bit_4_L => [0xCB, 0x65] | .bit_4_atHL => [0xCB, 0x66]
  | .bit_4_A => [0xCB, 0x67] | .bit_5_B => [0xCB, 0x68] | .bit_5_C => [0xCB, 0x69] | .bit_5_D => [0xCB, 0x6A]
  | .bit_5_E => [0xCB, 0x6B] | .bit_5_H => [0xCB, 0x6C] | .bit_5_L => [0xCB, 0x6D]
  | .bit_5_atHL => [0xCB, 0x6E] | .bit_5_A => [0xCB, 0x6F] | .bit_6_B => [0xCB, 0x70]
  | .bit_6_C => [0xCB, 0x71] | .bit_6_D => [0xCB, 0x72] | .bit_6_E => [0xCB, 0x73] | .bit_6_H => [0xCB, 0x74]
  | .bit_6_L => [0xCB, 0x75] | .bit_6_atHL => [0xCB, 0x76] | .bit_6_A => [0xCB, 0x77]
  | .bit_7_B => [0xCB, 0x78] | .bit_7_C => [0xCB, 0x79] | .bit_7_D => [0xCB, 0x7A] | .bit_7_E => [0xCB, 0x7B]
  | .bit_7_H => [0xCB, 0x7C] | .bit_7_L => [0xCB, 0x7D] | .bit_7_atHL => [0xCB, 0x7E]
  | .bit_7_A => [0xCB, 0x7F] | .res_0_B => [0xCB, 0x80] | .res_0_C => [0xCB, 0x81] | .res_0_D => [0xCB, 0x82]
  | .res_0_E => [0xCB, 0x83] | .res_0_H => [0xCB, 0x84] | .res_0_L => [0xCB, 0x85]
  | .res_0_atHL => [0xCB, 0x86] | .res_0_A => [0xCB, 0x87] | .res_1_B => [0xCB, 0x88]
  | .res_1_C => [0xCB, 0x89] | .res_1_D => [0xCB, 0x8A] | .res_1_E => [0xCB, 0x8B] | .res_1_H => [0xCB, 0x8C]
  | .res_1_L => [0xCB, 0x8D] | .res_1_atHL => [0xCB, 0x8E] | .res_1_A => [0xCB, 0x8F]
  | .res_2_B => [0xCB, 0x90] | .res_2_C => [0xCB, 0x91] | .res_2_D => [0xCB, 0x92] | .res_2_E => [0xCB, 0x93]
  | .res_2_H => [0xCB, 0x94] | .res_2_L => [0xCB, 0x95] | .res_2_atHL => [0xCB, 0x96]
  | .res_2_A => [0xCB, 0x97] | .res_3_B => [0xCB, 0x98] | .res_3_C => [0xCB, 0x99] | .res_3_D => [0xCB, 0x9A]
  | .res_3_E => [0xCB, 0x9B] | .res_3_H => [0xCB, 0x9C] | .res_3_L => [0xCB, 0x9D]
  | .res_3_atHL => [0xCB, 0x9E] | .res_3_A => [0xCB, 0x9F] | .res_4_B => [0xCB, 0xA0]
  | .res_4_C => [0xCB, 0xA1] | .res_4_D => [0xCB, 0xA2] | .res_4_E => [0xCB, 0xA3] | .res_4_H => [0xCB, 0xA4]
  | .res_4_L => [0xCB, 0xA5] | .res_4_atHL => [0xCB, 0xA6] | .res_4_A => [0xCB, 0xA7]
  | .res_5_B => [0xCB, 0xA8] | .res_5_C => [0xCB, 0xA9] | .res_5_D => [0xCB, 0xAA] | .res_5_E => [0xCB, 0xAB]
  | .res_5_H => [0xCB, 0xAC] | .res_5_L => [0xCB, 0xAD] | .res_5_atHL => [0xCB, 0xAE]
  | .res_5_A => [0xCB, 0xAF] | .res_6_B => [0xCB, 0xB0] | .res_6_C => [0xCB, 0xB1] | .res_6_D => [0xCB, 0xB2]
  | .res_6_E => [0xCB, 0xB3] | .res_6_H => [0xCB, 0xB4] | .res_6_L => [0xCB, 0xB5]
  | .res_6_atHL => [0xCB, 0xB6] | .res_6_A => [0xCB, 0xB7] | .res_7_B => [0xCB, 0xB8]
  | .res_7_C => [0xCB, 0xB9] | .res_7_D => [0xCB, 0xBA] | .res_7_E => [0xCB, 0xBB] | .res_7_H => [0xCB, 0xBC]
  | .res_7_L => [0xCB, 0xBD] | .res_7_atHL => [0xCB, 0xBE] | .res_7_A => [0xCB, 0xBF]
  | .set_0_B => [0xCB, 0xC0] | .set_0_C => [0xCB, 0xC1] | .set_0_D => [0xCB, 0xC2] | .set_0_E => [0xCB, 0xC3]
  | .set_0_H => [0xCB, 0xC4] | .set_0_L => [0xCB, 0xC5] | .set_0_atHL => [0xCB, 0xC6]
  | .set_0_A => [0xCB, 0xC7] | .set_1_B => [0xCB, 0xC8] | .set_1_C => [0xCB, 0xC9] | .set_1_D => [0xCB, 0xCA]
  | .set_1_E => [0xCB, 0xCB] | .set_1_H => [0xCB, 0xCC] | .set_1_L => [0xCB, 0xCD]
  | .set_1_atHL => [0xCB, 0xCE] | .set_1_A => [0xCB, 0xCF] | .set_2_B => [0xCB, 0xD0]
  | .set_2_C => [0xCB, 0xD1] | .set_2_D => [0xCB, 0xD2] | .set_2_E => [0xCB, 0xD3] | .set_2_H => [0xCB, 0xD4]
  | .set_2_L => [0xCB, 0xD5] | .set_2_atHL => [0xCB, 0xD6] | .set_2_A => [0xCB, 0xD7]
  | .set_3_B => [0xCB, 0xD8] | .set_3_C => [0xCB, 0xD9] | .set_3_D => [0xCB, 0xDA] | .set_3_E => [0xCB, 0xDB]
  | .set_3_H => [0xCB, 0xDC] | .set_3_L => [0xCB, 0xDD] | .set_3_atHL => [0xCB, 0xDE]
  | .set_3_A => [0xCB, 0xDF] | .set_4_B => [0xCB, 0xE0] | .set_4_C => [0xCB, 0xE1] | .set_4_D => [0xCB, 0xE2]
  | .set_4_E => [0xCB, 0xE3] | .set_4_H => [0xCB, 0xE4] | .set_4_L => [0xCB, 0xE5]
  | .set_4_atHL => [0xCB, 0xE6] | .set_4_A => [0xCB, 0xE7] | .set_5_B => [0xCB, 0xE8]
  | .set_5_C => [0xCB, 0xE9] | .set_5_D => [0xCB, 0xEA] | .set_5_E => [0xCB, 0xEB] | .set_5_H => [0xCB, 0xEC]
  | .set_5_L => [0xCB, 0xED] | .set_5_atHL => [0xCB, 0xEE] | .set_5_A => [0xCB, 0xEF]
  | .set_6_B => [0xCB, 0xF0] | .set_6_C => [0xCB, 0xF1] | .set_6_D => [0xCB, 0xF2] | .set_6_E => [0xCB, 0xF3]
  | .set_6_H => [0xCB, 0xF4] | .set_6_L => [0xCB, 0xF5] | .set_6_atHL => [0xCB, 0xF6]
  | .set_6_A => [0xCB, 0xF7] | .set_7_B => [0xCB, 0xF8] | .set_7_C => [0xCB, 0xF9] | .set_7_D => [0xCB, 0xFA]
  | .set_7_E => [0xCB, 0xFB] | .set_7_H => [0xCB, 0xFC] | .set_7_L => [0xCB, 0xFD]
  | .set_7_atHL => [0xCB, 0xFE] | .set_7_A => [0xCB, 0xFF]

/-! ## The table's words -/

/-- The bytes, in fetch order, of a word of `nbits` bits numbered as spec/opcode_table.json numbers a row: a CB row
has its first byte in bits 15:8 (R84); any other word has its first byte lowest (log entry 11). -/
def tableBytes (nbits w : Nat) : List Byte :=
  if nbits ≤ 16 && w / 256 % 256 == 0xCB then [0xCB, BitVec.ofNat 8 w, 0]
  else [BitVec.ofNat 8 w, BitVec.ofNat 8 (w / 256), BitVec.ofNat 8 (w / 65536)]

/-- The instruction the decoder reads from a word of the table, the bytes above it 0. -/
def decodeTableWord (nbits w : Nat) : Option Instr :=
  match decode (tableBytes nbits (w % 2 ^ nbits)) with
  | .ok (i, _) => some i
  | .error _ => none

end Sys2Proof
end

