-- ==== Sys2Proof/Config.lean ====
section
/-! DEFINITION. What is fixed for a run: the parameters of spec/00_scope.md R5, R6 and R7, and the free
value a read of an IO port returns under `IO_READS = ORACLE` (R6, R41). -/

namespace Sys2Proof

/-- `FLAG_PROFILE` (R5): `DOC` is the default and normative, `SM83` the silicon's behaviour at four points. -/
inductive FlagProfile where
  | DOC
  | SM83
deriving DecidableEq, Repr

/-- `IO_READS` (R6): under `RAM` every read returns the last byte written, under `ORACLE` a read of
0xFF00-0xFFFF returns a free draw and every access there is an event. -/
inductive IoReads where
  | RAM
  | ORACLE
deriving DecidableEq, Repr

/-- The parameters of one run (R5, R6, R7, R293). They are no architectural state: no instruction reads or
writes them, and no step changes them. `stopAddr` is `STOP_ADDR`, `none` while the launch has given none
(DESIGN CHOICE, safe, log entry 2). -/
structure Launch where
  flagProfile : FlagProfile
  ioReads     : IoReads
  stopAddr    : Option Addr
deriving DecidableEq, Repr

/-- The parameters' defaults: `DOC` (R5), `RAM` (R6), and no `STOP_ADDR` (log entry 2). -/
def Launch.default : Launch :=
  { flagProfile := .DOC, ioReads := .RAM, stopAddr := none }

/-- The n-th free draw of a run under `IO_READS = ORACLE` (R6, R41: any u8). It has no body, so no proof
can know its value (DESIGN CHOICE, safe, log entry 3). -/
opaque Config.freeByte : Nat → Byte

end Sys2Proof
end

