-- ==== Sys2Proof/Machine/State.lean ====
section
/-! DEFINITION. The state of the machine (spec/10_state.md, its record and R20-R32; spec/00_scope.md R16),
the reasons a step can stop (spec/60_exceptions.md R260-R263), and the state after reset
(spec/70_reset_and_hazards.md R280, R281). -/

namespace Sys2Proof.Machine

/-- The terminal faults (spec/60_exceptions.md R260). Both are the spec's own: the run ends, nothing is
written. -/
inductive Fault where
  /-- Cause 1 (R261): raised by the bit unit when its index input is above 7. Safe: no decoded instruction
  reaches it, only the handler-level interface does. -/
  | bitIndexFault (i : Byte)
  /-- Cause 2 (R263): raised by the eleven unassigned opcodes (spec/30_encoding.md R79). Safe: the spec ends
  the run here (D13, toward unprovable). -/
  | illegalOpcode (op : Byte)
deriving DecidableEq, Repr

/-- The refusals. -/
inductive Refusal where
  /-- An instruction without a meaning yet, by its mnemonic; only an arm of exec may answer it, and no
  arm does. Safe. -/
  | notModelled (mnemonic : String)
  /-- `refuse OutOfScope(op)` (spec/60_exceptions.md R262): raised by STOP, HALT, RETI, DI and EI, which the
  spec itself refuses. Safe (D14, toward unprovable). -/
  | outOfScope (op : Byte)
  /-- A step was asked of a run that has already ended `done` (spec/70_reset_and_hazards.md R287): raised by
  step alone, no step is enabled there. Safe (log entry 4). -/
  | runDone
deriving DecidableEq, Repr

/-- The run's outcome as the spec's state record holds it (spec/10_state.md, first section; R16). -/
inductive RunOutcome where
  | running
  | done
  | fault (r : Fault)
  | refused (r : Refusal)
deriving DecidableEq, Repr

/-- One access at the byte port: a read with the byte returned, or a write with the byte stored
(spec/00_scope.md R11, R13). -/
inductive Access where
  | read (a : Addr) (v : Byte)
  | write (a : Addr) (v : Byte)
deriving DecidableEq, Repr

/-- The state. `A`..`L`, `F`, `SP`, `PC`, `mem` and `outcome` are the spec's record (spec/10_state.md); the other
fields carry what the spec gives beside it: the run's parameters, the port accesses of the transaction,
the IO events and the count of free draws. -/
structure State where
  /-- The accumulator (R20, R22). -/
  A : Byte
  /-- The flags register, bits 7:4 = Z N H C, bits 3:0 always 0 (R23, R24). -/
  F : Byte
  B : Byte
  C : Byte
  D : Byte
  E : Byte
  H : Byte
  L : Byte
  /-- The stack pointer (R27). -/
  SP : Addr
  /-- The program counter: the next opcode's address at a boundary, Next-PC inside a rule (R28, R62). -/
  PC : Addr
  /-- The 64 KiB memory (R31, R40) as the bytes that differ from `Memory.unlisted`, addresses rising. -/
  mem : List Host.Cell
  /-- `running | done | fault(reason) | refused(reason)` (R16). -/
  outcome : RunOutcome
  /-- The run's parameters (R5, R6, R7). -/
  launch : Launch
  /-- The port accesses of the instruction transaction in progress or last completed, oldest first: its
  writes are the ordered write list of R13, and its order is that of R47. -/
  bus : List Access
  /-- The events of the run under `IO_READS = ORACLE`, oldest first (R6, R41, R42). -/
  ioEvents : List Access
  /-- How many free draws the run has consumed: the model's own counter (log entry 3). -/
  draws : Nat
deriving DecidableEq, Repr

/-- The power-on state over the parameters `p` and the launch image `image` (`INIT_MEM`): R280 and R32 for the
registers, R281 for the memory, which reset does not touch. -/
def State.powerOn (p : Launch) (image : List Host.Cell) : State :=
  { A := 0x00, F := 0x00, B := 0x00, C := 0x00, D := 0x00, E := 0x00, H := 0x00, L := 0x00
    SP := 0xE000, PC := 0x0100
    mem := image
    outcome := .running
    launch := p
    bus := [], ioEvents := [], draws := 0 }

/-- The machine right after reset with nothing loaded (R280; log entries 1 and 2). -/
def State.reset : State := State.powerOn Launch.default []

end Sys2Proof.Machine
end

