-- ==== Sys2Proof/Machine/Memory.lean ====
section
/-! DEFINITION. The 64 KiB memory as a list of cells in one canonical form (spec/20_memory.md R40, R41, R42):
read, write, and the form itself. -/

namespace Sys2Proof.Machine

/-- What an address without a cell holds (DESIGN CHOICE, unsafe, log entry 1). Every 65536-byte image has exactly
one canonical list over it, so a statement about every list is a statement about every `INIT_MEM` (R285). -/
def Memory.unlisted : Byte := 0x00

/-- The byte at address `a`. -/
def Memory.get : List Host.Cell → Nat → Byte
  | [], _ => Memory.unlisted
  | (k, v) :: m, a => if k = a then v else Memory.get m a

/-- The cells without the one at `a`. -/
def Memory.erase : List Host.Cell → Nat → List Host.Cell
  | [], _ => []
  | (k, v) :: m, a => if k = a then Memory.erase m a else (k, v) :: Memory.erase m a

/-- The cells with `(a, v)` put before the first higher address. -/
def Memory.insert : List Host.Cell → Nat → Byte → List Host.Cell
  | [], a, v => [(a, v)]
  | (k, b) :: m, a, v => if a < k then (a, v) :: (k, b) :: m else (k, b) :: Memory.insert m a v

/-- Store `v` at `a`: a byte equal to `Memory.unlisted` needs no cell. -/
def Memory.set (m : List Host.Cell) (a : Nat) (v : Byte) : List Host.Cell :=
  if v = Memory.unlisted then Memory.erase m a else Memory.insert (Memory.erase m a) a v

/-- All addresses of `m` are at least `lo`, strictly rising and inside the 64 KiB space, and no cell holds
`Memory.unlisted`. -/
def Memory.wfFrom : Nat → List Host.Cell → Bool
  | _, [] => true
  | lo, (k, v) :: m => decide (lo ≤ k) && decide (k < 65536) && (v != Memory.unlisted) && Memory.wfFrom (k + 1) m

/-- The canonical form. -/
def Memory.wf (m : List Host.Cell) : Bool := Memory.wfFrom 0 m

/-- The image with `bytes` at `a`, `a`+1, ... modulo 2^16 (the loader's deposit, spec/70_reset_and_hazards.md
R284, R285). -/
def Memory.load : List Host.Cell → Addr → List Byte → List Host.Cell
  | m, _, [] => m
  | m, a, b :: bs => Memory.load (Memory.set m a.toNat b) (a + 1) bs

end Sys2Proof.Machine
end

