-- ==== Sys2Proof/Machine/Ops.lean ====
section
/-! DEFINITION. The named operations over the byte port (spec/00_scope.md R11, spec/20_memory.md R41-R48), and the
one way an instruction ends without writing: raise and refuse (spec/00_scope.md R12, spec/60_exceptions.md
R260-R263, R266). -/

namespace Sys2Proof.Machine

/-- What an instruction's rule, or a step, answers. -/
abbrev Result := Host.Outcome State Fault Refusal

/-- The base of the IO ports (R43, R49). -/
def ioBase : Addr := 0xFF00

/-- The address of IO port `n`: `0xFF00 + n` (R43, R65). -/
def ioPort (n : Byte) : Addr := ioBase + n.setWidth 16

/-- Whether an access at `a` is an IO event whose read is a free draw: `IO_READS = ORACLE` and
`a >= 0xFF00` (R6, R41). -/
def State.ioAt (s : State) (a : Addr) : Bool :=
  match s.launch.ioReads with
  | .RAM => false
  | .ORACLE => decide (ioBase.toNat ≤ a.toNat)

/-- The byte memory holds at `a`. -/
def State.peek (s : State) (a : Addr) : Byte := Memory.get s.mem a.toNat

/-- `MemRead(a, 1)`: the byte the read port returns in state `s` (R41). -/
def State.portValue (s : State) (a : Addr) : Byte :=
  if s.ioAt a then Config.freeByte s.draws else s.peek a

/-- The state after the read `MemRead(a, 1)`: the access is on the bus and, where it is an IO event, it is
recorded and its draw is used up. A read has no other side effect (R41, R48). -/
def State.afterRead (s : State) (a : Addr) : State :=
  { s with
    bus := s.bus ++ [.read a (s.portValue a)]
    ioEvents := if s.ioAt a then s.ioEvents ++ [.read a (s.portValue a)] else s.ioEvents
    draws := if s.ioAt a then s.draws + 1 else s.draws }

/-- `MemWrite(a, 1, v)` (R42). -/
def State.writeByte (s : State) (a : Addr) (v : Byte) : State :=
  { s with
    mem := Memory.set s.mem a.toNat v
    bus := s.bus ++ [.write a v]
    ioEvents := if s.ioAt a then s.ioEvents ++ [.write a v] else s.ioEvents }

/-- `MemRead(a, 2)`: two byte reads, little-endian, the second at `trunc16(a + 1)` (R11, R44, R45). -/
def State.portWord (s : State) (a : Addr) : Addr :=
  word16 ((s.afterRead a).portValue (a + 1)) (s.portValue a)

/-- The state after `MemRead(a, 2)`, the low byte read first. -/
def State.afterReadWord (s : State) (a : Addr) : State := (s.afterRead a).afterRead (a + 1)

/-- `MemWrite(a, 2, v)`: the low byte at `a`, then the high byte at `trunc16(a + 1)` (R11, R44). -/
def State.writeWord (s : State) (a : Addr) (v : Addr) : State :=
  (s.writeByte a (loByte v)).writeByte (a + 1) (hiByte v)

/-- `raise reason`: the instruction ends in a terminal fault and writes nothing (R12, R260). The core has no
trap entry: nothing is saved and control goes nowhere (R266). -/
def raise (r : Fault) : Result := .fault r

/-- `refuse OutOfScope(op)`: the model gives the instruction no meaning (R12, R262). -/
def refuse (op : Byte) : Result := .refused (.outOfScope op)

/-- The cause number of a fault (R261, R263). -/
def Fault.cause : Fault → Nat
  | .bitIndexFault _ => 1
  | .illegalOpcode _ => 2

/-- The state in which the result `r` of a transaction leaves the core, `s` being the state its reads had led to where
it ends without a next state: nothing is written, the reads stay recorded, and the outcome is marked (R12, R260, R262;
log entries 5 and 18). -/
def State.settleAt (s : State) (r : Result) : State :=
  match r with
  | .next t => t
  | .fault f => { s with outcome := .fault f }
  | .refused q => { s with outcome := .refused q }

end Sys2Proof.Machine
end

