-- ==== Sys2Proof/Machine/Operands.lean ====
section
/-! DEFINITION. The register file and its views, and the operand multiplexers (spec/10_state.md R20-R28,
spec/30_encoding.md R70-R73, spec/45_control.md R220): every read and write of a register goes through these. -/

namespace Sys2Proof.Machine

/-! ## Single registers -/

/-- A read of F returns 0 in bits 3:0 (R23). -/
def State.readF (s : State) : Byte := s.F &&& 0xF0

/-- Every write of F stores `v & 0xF0` (R23). -/
def State.writeF (s : State) (v : Byte) : State := { s with F := v &&& 0xF0 }

/-- The four flags (R24). -/
def State.flagZ (s : State) : Bool := s.F.getLsbD 7
def State.flagN (s : State) : Bool := s.F.getLsbD 6
def State.flagH (s : State) : Bool := s.F.getLsbD 5
def State.flagC (s : State) : Bool := s.F.getLsbD 4

/-- The register an r field names (R70). -/
def State.reg (s : State) : Reg8 → Byte
  | .A => s.A
  | .B => s.B
  | .C => s.C
  | .D => s.D
  | .E => s.E
  | .H => s.H
  | .L => s.L

/-- `r <- v`. -/
def State.setReg (s : State) (r : Reg8) (v : Byte) : State :=
  match r with
  | .A => { s with A := v }
  | .B => { s with B := v }
  | .C => { s with C := v }
  | .D => { s with D := v }
  | .E => { s with E := v }
  | .H => { s with H := v }
  | .L => { s with L := v }

/-! ## The pair views (R21): computed on read, decomposed on write -/

def State.AF (s : State) : Addr := word16 s.A s.readF
def State.BC (s : State) : Addr := word16 s.B s.C
def State.DE (s : State) : Addr := word16 s.D s.E
def State.HL (s : State) : Addr := word16 s.H s.L

def State.setAF (s : State) (v : Addr) : State := { s with A := hiByte v, F := loByte v &&& 0xF0 }
def State.setBC (s : State) (v : Addr) : State := { s with B := hiByte v, C := loByte v }
def State.setDE (s : State) (v : Addr) : State := { s with D := hiByte v, E := loByte v }
def State.setHL (s : State) (v : Addr) : State := { s with H := hiByte v, L := loByte v }

/-- The rr multiplexer (R71). -/
def State.pair (s : State) : Reg16 → Addr
  | .BC => s.BC
  | .DE => s.DE
  | .HL => s.HL
  | .SP => s.SP

def State.setPair (s : State) (rr : Reg16) (v : Addr) : State :=
  match rr with
  | .BC => s.setBC v
  | .DE => s.setDE v
  | .HL => s.setHL v
  | .SP => { s with SP := v }

/-- The qq multiplexer (R72). -/
def State.stackPair (s : State) : StackReg → Addr
  | .BC => s.BC
  | .DE => s.DE
  | .HL => s.HL
  | .AF => s.AF

def State.setStackPair (s : State) (qq : StackReg) (v : Addr) : State :=
  match qq with
  | .BC => s.setBC v
  | .DE => s.setDE v
  | .HL => s.setHL v
  | .AF => s.setAF v

/-! ## The pointer multiplexer of the IND format (R77, R105-R108, R115-R118) -/

/-- The address an IND instruction transfers through: HL's is the one held at the start (R123). -/
def State.indAddr (s : State) : IndPtr → Addr
  | .BC => s.BC
  | .DE => s.DE
  | .HLinc => s.HL
  | .HLdec => s.HL

/-- The adjustment after the transfer: `HL <- trunc16(HL ± 1)` for the HL forms (R123). -/
def State.indAdjust (s : State) : IndPtr → State
  | .BC => s
  | .DE => s
  | .HLinc => s.setHL (s.HL + 1)
  | .HLdec => s.setHL (s.HL - 1)

/-! ## The condition unit (R220) -/

def State.cond (s : State) : Cond → Bool
  | .NZ => !s.flagZ
  | .Z => s.flagZ
  | .NC => !s.flagC
  | .C => s.flagC

/-! ## The dispatch port (R26) -/

/-- The ten registers of the register file (R20). -/
inductive RegName where
  | A | F | B | C | D | E | H | L | SP | PC
deriving DecidableEq, Repr

/-- What the dispatch port names: a register or a pair (R26). -/
inductive PortName where
  | one (r : RegName)
  | AF | BC | DE | HL
deriving DecidableEq, Repr

/-- A register's value, zero-extended to 16 bits. -/
def State.value (s : State) : RegName → Addr
  | .A => s.A.setWidth 16
  | .F => s.readF.setWidth 16
  | .B => s.B.setWidth 16
  | .C => s.C.setWidth 16
  | .D => s.D.setWidth 16
  | .E => s.E.setWidth 16
  | .H => s.H.setWidth 16
  | .L => s.L.setWidth 16
  | .SP => s.SP
  | .PC => s.PC

/-- The port's get: the register or pair value (R26). -/
def State.portGet (s : State) : PortName → Addr
  | .one r => s.value r
  | .AF => s.AF
  | .BC => s.BC
  | .DE => s.DE
  | .HL => s.HL

/-- The port's set: it writes the register or pair, with F masked (R26, R23). A byte register takes bits 7:0. -/
def State.portSet (s : State) (n : PortName) (v : Addr) : State :=
  match n with
  | .one .A => { s with A := loByte v }
  | .one .F => s.writeF (loByte v)
  | .one .B => { s with B := loByte v }
  | .one .C => { s with C := loByte v }
  | .one .D => { s with D := loByte v }
  | .one .E => { s with E := loByte v }
  | .one .H => { s with H := loByte v }
  | .one .L => { s with L := loByte v }
  | .one .SP => { s with SP := v }
  | .one .PC => { s with PC := v }
  | .AF => s.setAF v
  | .BC => s.setBC v
  | .DE => s.setDE v
  | .HL => s.setHL v

/-- Boot (spec/70_reset_and_hazards.md R284): the loader's image, reset, and then the host's register
set-up through the dispatch port, in order. -/
def State.boot (p : Launch) (image : List Host.Cell) (sets : List (PortName × Addr)) : State :=
  sets.foldl (fun s x => s.portSet x.1 x.2) (State.powerOn p image)

end Sys2Proof.Machine
end

