-- ==== Sys2Proof/Machine/Flags.lean ====
section
/-! DEFINITION. The datapath units with their flag generation (spec/00_scope.md R15): the 8-bit ALU
(spec/41_alu8.md R140-R147), the 16-bit ALU (spec/42_alu16.md R180, R181), the SP-offset adder (spec/40_loads.md
R125), the shift/rotate unit (spec/43_rotate_shift.md R194), the bit unit (spec/44_bit.md R210) and the decimal
adjust (spec/46_misc.md R241). Each is a pure function; carries are computed on exact numbers and results narrowed
at the end. -/

namespace Sys2Proof.Machine

/-- `flags(z, n, h, c)` (spec/00_scope.md R10): the whole byte, bits 3:0 zero (R146). -/
def flagByte (z n h c : Bool) : Byte :=
  (if z then 0x80 else 0) ||| (if n then 0x40 else 0) ||| (if h then 0x20 else 0) ||| (if c then 0x10 else 0)

/-- A result byte with the flag byte of the operation. -/
structure ByteOut where
  res : Byte
  flags : Byte
deriving DecidableEq, Repr

/-- `Add8(a, b, cin)` (R140): H is the carry out of bit 3, C the carry out of bit 7. -/
def add8 (a b : Byte) (cin : Bool) : ByteOut :=
  let res := BitVec.ofNat 8 (a.toNat + b.toNat + cin.toNat)
  { res := res
    flags := flagByte (res == 0) false
      (decide (16 ≤ a.toNat % 16 + b.toNat % 16 + cin.toNat))
      (decide (256 ≤ a.toNat + b.toNat + cin.toNat)) }

/-- `Sub8(a, b, cin)` (R141): H is the borrow from bit 4, C the borrow out of bit 7. -/
def sub8 (a b : Byte) (cin : Bool) : ByteOut :=
  let res := BitVec.ofInt 8 ((a.toNat : Int) - b.toNat - cin.toNat)
  { res := res
    flags := flagByte (res == 0) true
      (decide (a.toNat % 16 < b.toNat % 16 + cin.toNat))
      (decide (a.toNat < b.toNat + cin.toNat)) }

/-- AND (R143). -/
def and8 (a b : Byte) : ByteOut :=
  { res := a &&& b, flags := flagByte ((a &&& b) == 0) false true false }

/-- XOR (R144). -/
def xor8 (a b : Byte) : ByteOut :=
  { res := a ^^^ b, flags := flagByte ((a ^^^ b) == 0) false false false }

/-- OR (R144). -/
def or8 (a b : Byte) : ByteOut :=
  { res := a ||| b, flags := flagByte ((a ||| b) == 0) false false false }

/-- CP: the flags of the subtraction, A unchanged (R147, R169). -/
def cp8 (a b : Byte) : ByteOut :=
  { res := a, flags := (sub8 a b false).flags }

/-- `ALU8(op, a, b)` with the carry flag `c` (R147); `res` is what A holds afterwards. -/
def alu8 (op : AluOp) (a b : Byte) (c : Bool) : ByteOut :=
  match op with
  | .ADD => add8 a b false
  | .ADC => add8 a b c
  | .SUB => sub8 a b false
  | .SBC => sub8 a b c
  | .AND => and8 a b
  | .XOR => xor8 a b
  | .OR => or8 a b
  | .CP => cp8 a b

/-- `Inc8(v)` with the carry flag `c`, which it keeps (R145). -/
def inc8 (v : Byte) (c : Bool) : ByteOut :=
  let res := BitVec.ofNat 8 (v.toNat + 1)
  { res := res, flags := flagByte (res == 0) false (decide (16 ≤ v.toNat % 16 + 1)) c }

/-- `Dec8(v)` with the carry flag `c`, which it keeps (R145). -/
def dec8 (v : Byte) (c : Bool) : ByteOut :=
  let res := BitVec.ofInt 8 ((v.toNat : Int) - 1)
  { res := res, flags := flagByte (res == 0) true (decide (v.toNat % 16 < 1)) c }

/-- A u16 result with the carries out of bits 11 and 15. -/
structure WordOut where
  res : Addr
  h : Bool
  c : Bool
deriving DecidableEq, Repr

/-- `Add16(a, b)` (R180). -/
def add16 (a b : Addr) : WordOut :=
  { res := BitVec.ofNat 16 (a.toNat + b.toNat)
    h := decide (4096 ≤ a.toNat % 4096 + b.toNat % 4096)
    c := decide (65536 ≤ a.toNat + b.toNat) }

/-- `Inc16(v)` and `Dec16(v)`: modulo 2^16, no flags (R181). -/
def inc16 (v : Addr) : Addr := v + 1
def dec16 (v : Addr) : Addr := v - 1

/-- `sext16(e)` (spec/00_scope.md R9). -/
def sext16 (e : Byte) : Addr := e.signExtend 16

/-- The outputs of the SP-offset adder. -/
structure SpOut where
  sum : Addr
  c15 : Bool
  h11 : Bool
  c7 : Bool
  h3 : Bool
deriving DecidableEq, Repr

/-- `SPadd(sp, e)` (R125). -/
def spAdd (sp : Addr) (e : Byte) : SpOut :=
  let ext := sext16 e
  { sum := BitVec.ofNat 16 (sp.toNat + ext.toNat)
    c15 := decide (65536 ≤ sp.toNat + ext.toNat)
    h11 := decide (4096 ≤ sp.toNat % 4096 + ext.toNat % 4096)
    c7 := decide (256 ≤ sp.toNat % 256 + e.toNat)
    h3 := decide (16 ≤ sp.toNat % 16 + e.toNat % 16) }

/-- The flags of ADD SP,e8 by profile, `z` the incoming Z (R184). -/
def addSpFlags (p : FlagProfile) (z : Bool) (o : SpOut) : Byte :=
  match p with
  | .DOC => flagByte z false o.h11 o.c15
  | .SM83 => flagByte false false o.h3 o.c7

/-- The flags of LD HL,SP+e8 by profile (R124). -/
def ldHLSpFlags (p : FlagProfile) (o : SpOut) : Byte :=
  match p with
  | .DOC => 0x00
  | .SM83 => flagByte false false o.h3 o.c7

/-- The result and the outgoing carry of the shift/rotate unit. -/
structure ShiftOut where
  res : Byte
  cout : Bool
deriving DecidableEq, Repr

/-- `(v[3:0] << 4) | v[7:4]` (R240). -/
def swapNibbles (v : Byte) : Byte := (v <<< 4) ||| (v >>> 4)

/-- A Boolean as a byte, 1 or 0 (R9). -/
def bitByte (b : Bool) : Byte := if b then 1 else 0

/-- `RotShift(op, v, cin)` (R194). -/
def rotShift (op : RotOp) (v : Byte) (cin : Bool) : ShiftOut :=
  match op with
  | .RLC => { res := (v <<< 1) ||| bitByte (v.getLsbD 7), cout := v.getLsbD 7 }
  | .RRC => { res := (v >>> 1) ||| (bitByte (v.getLsbD 0) <<< 7), cout := v.getLsbD 0 }
  | .RL => { res := (v <<< 1) ||| bitByte cin, cout := v.getLsbD 7 }
  | .RR => { res := (v >>> 1) ||| (bitByte cin <<< 7), cout := v.getLsbD 0 }
  | .SLA => { res := v <<< 1, cout := v.getLsbD 7 }
  | .SRA => { res := (v >>> 1) ||| (v &&& 0x80), cout := v.getLsbD 0 }
  | .SWAP => { res := swapNibbles v, cout := false }
  | .SRL => { res := v >>> 1, cout := v.getLsbD 0 }

/-- The flags of every CB rotate, shift and SWAP (R194, R240). -/
def shiftFlags (o : ShiftOut) : Byte := flagByte (o.res == 0) false false o.cout

/-- The Z of the four accumulator rotates by profile (R190). -/
def rotAZero (p : FlagProfile) (res : Byte) : Bool :=
  match p with
  | .DOC => res == 0
  | .SM83 => false

/-- The outputs of the bit unit: Z of the test, and the result byte. -/
structure BitOut where
  z : Bool
  res : Byte
deriving DecidableEq, Repr

/-- `BitUnit(kind, i, v)` (R210): the index is a byte, and one above 7 raises `BitIndexFault(i)`. -/
def bitUnit (kind : BitKind) (i v : Byte) : Except Fault BitOut :=
  if 7 < i.toNat then .error (.bitIndexFault i)
  else .ok
    { z := !v.getLsbD i.toNat
      res := match kind with
        | .TEST => v
        | .SET => v ||| (1#8 <<< i.toNat)
        | .RESET => v &&& ~~~(1#8 <<< i.toNat) }

/-- DAA under `DOC` (R241): both tests read A as it was on entry. -/
def daaDoc (a : Byte) (n h c : Bool) : ByteOut :=
  let loFix := decide (9 < a.toNat % 16) || h
  let hiFix := decide (9 < a.toNat / 16) || c
  let res := BitVec.ofNat 8 (a.toNat + (if loFix then 0x06 else 0) + (if hiFix then 0x60 else 0))
  { res := res, flags := flagByte (res == 0) n false hiFix }

/-- DAA under `SM83` (R241). -/
def daaSM83 (a : Byte) (n h c : Bool) : ByteOut :=
  if n then
    let corr := (if c then 0x60 else 0) + (if h then 0x06 else 0)
    let res := BitVec.ofInt 8 ((a.toNat : Int) - corr)
    { res := res, flags := flagByte (res == 0) true false c }
  else
    let hi := c || decide (0x99 < a.toNat)
    let lo := h || decide (9 < a.toNat % 16)
    let res := BitVec.ofNat 8 (a.toNat + (if hi then 0x60 else 0) + (if lo then 0x06 else 0))
    { res := res, flags := flagByte (res == 0) false false hi }

/-- DAA by profile (R241). -/
def daa (p : FlagProfile) (a : Byte) (n h c : Bool) : ByteOut :=
  match p with
  | .DOC => daaDoc a n h c
  | .SM83 => daaSM83 a n h c

end Sys2Proof.Machine
end

