-- ==== Sys2Proof/Machine/Alu16.lean ====
section
/-! DEFINITION. The 16-bit ALU instructions (spec/42_alu16.md R182-R185). PC is Next-PC. -/

namespace Sys2Proof.Machine

/-! ## Shared operations -/

/-- ADD HL,rr: Z is kept, N = 0, H and C from bits 11 and 15 (R180, R182). -/
def addHL (rr : Reg16) (s : State) : Result :=
  let o := add16 s.HL (s.pair rr)
  .next ((s.setHL o.res).writeF (flagByte s.flagZ false o.h o.c))

/-- INC rr and DEC rr: no flags (R181, R183, R185). -/
def incPair (rr : Reg16) (s : State) : Result := .next (s.setPair rr (inc16 (s.pair rr)))

def decPair (rr : Reg16) (s : State) : Result := .next (s.setPair rr (dec16 (s.pair rr)))

/-- ADD SP,e8 with the flags of the profile (R184, spec/40_loads.md R125). -/
def addSPe8 (e : Byte) (s : State) : Result :=
  let o := spAdd s.SP e
  .next ({ s with SP := o.sum }.writeF (addSpFlags s.launch.flagProfile s.flagZ o))

/-! ## The instructions -/

/-! ### R182, ADD HL,rr -/

def execAdd_HL_BC (s : State) : Result := addHL .BC s
def execAdd_HL_DE (s : State) : Result := addHL .DE s
def execAdd_HL_HL (s : State) : Result := addHL .HL s
def execAdd_HL_SP (s : State) : Result := addHL .SP s

/-! ### R183, INC rr -/

def execInc_BC (s : State) : Result := incPair .BC s
def execInc_DE (s : State) : Result := incPair .DE s
def execInc_HL (s : State) : Result := incPair .HL s
def execInc_SP (s : State) : Result := incPair .SP s

/-! ### R184, ADD SP,e8 -/

def execAdd_SP_e8 (e : Byte) (s : State) : Result := addSPe8 e s

/-! ### R185, DEC rr -/

def execDec_BC (s : State) : Result := decPair .BC s
def execDec_DE (s : State) : Result := decPair .DE s
def execDec_HL (s : State) : Result := decPair .HL s
def execDec_SP (s : State) : Result := decPair .SP s

end Sys2Proof.Machine
end

