-- ==== Sys2Proof/Machine/Alu8.lean ====
section
/-! DEFINITION. The 8-bit ALU, INC and DEC instructions (spec/41_alu8.md R147-R175). PC is Next-PC. -/

namespace Sys2Proof.Machine

/-! ## Shared operations -/

/-- `ALU8(op, A, b)`: A takes the result (its own value for CP), F the flags (R147, R146). -/
def State.aluWith (s : State) (op : AluOp) (b : Byte) : State :=
  let o := alu8 op s.A b s.flagC
  (s.setReg .A o.res).writeF o.flags

/-- The operand is an immediate. -/
def aluValue (op : AluOp) (b : Byte) (s : State) : Result := .next (s.aluWith op b)

/-- The operand is a register. -/
def aluReg (op : AluOp) (r : Reg8) (s : State) : Result := .next (s.aluWith op (s.reg r))

/-- The operand is `MemRead(HL, 1)`. -/
def aluAtHL (op : AluOp) (s : State) : Result := .next ((s.afterRead s.HL).aluWith op (s.portValue s.HL))

/-- INC r (R172) and DEC r (R174). -/
def incReg (r : Reg8) (s : State) : Result :=
  let o := inc8 (s.reg r) s.flagC
  .next ((s.setReg r o.res).writeF o.flags)

def decReg (r : Reg8) (s : State) : Result :=
  let o := dec8 (s.reg r) s.flagC
  .next ((s.setReg r o.res).writeF o.flags)

/-- INC (HL) (R173) and DEC (HL) (R175): one read, then one write of the same address. -/
def incAtHL (s : State) : Result :=
  let o := inc8 (s.portValue s.HL) s.flagC
  .next (((s.afterRead s.HL).writeByte s.HL o.res).writeF o.flags)

def decAtHL (s : State) : Result :=
  let o := dec8 (s.portValue s.HL) s.flagC
  .next (((s.afterRead s.HL).writeByte s.HL o.res).writeF o.flags)

/-! ## The instructions -/

/-! ### R148, ADD A,r -/

def execAdd_A_B (s : State) : Result := aluReg .ADD .B s
def execAdd_A_C (s : State) : Result := aluReg .ADD .C s
def execAdd_A_D (s : State) : Result := aluReg .ADD .D s
def execAdd_A_E (s : State) : Result := aluReg .ADD .E s
def execAdd_A_H (s : State) : Result := aluReg .ADD .H s
def execAdd_A_L (s : State) : Result := aluReg .ADD .L s
def execAdd_A_A (s : State) : Result := aluReg .ADD .A s

/-! ### R149, ADD A,(HL) -/

def execAdd_A_atHL (s : State) : Result := aluAtHL .ADD s

/-! ### R150, ADD A,d8 -/

def execAdd_A_d8 (n : Byte) (s : State) : Result := aluValue .ADD n s

/-! ### R151, ADC A,r -/

def execAdc_A_B (s : State) : Result := aluReg .ADC .B s
def execAdc_A_C (s : State) : Result := aluReg .ADC .C s
def execAdc_A_D (s : State) : Result := aluReg .ADC .D s
def execAdc_A_E (s : State) : Result := aluReg .ADC .E s
def execAdc_A_H (s : State) : Result := aluReg .ADC .H s
def execAdc_A_L (s : State) : Result := aluReg .ADC .L s
def execAdc_A_A (s : State) : Result := aluReg .ADC .A s

/-! ### R152, ADC A,(HL) -/

def execAdc_A_atHL (s : State) : Result := aluAtHL .ADC s

/-! ### R153, ADC A,d8 -/

def execAdc_A_d8 (n : Byte) (s : State) : Result := aluValue .ADC n s

/-! ### R154, SUB r -/

def execSub_B (s : State) : Result := aluReg .SUB .B s
def execSub_C (s : State) : Result := aluReg .SUB .C s
def execSub_D (s : State) : Result := aluReg .SUB .D s
def execSub_E (s : State) : Result := aluReg .SUB .E s
def execSub_H (s : State) : Result := aluReg .SUB .H s
def execSub_L (s : State) : Result := aluReg .SUB .L s
def execSub_A (s : State) : Result := aluReg .SUB .A s

/-! ### R155, SUB (HL) -/

def execSub_atHL (s : State) : Result := aluAtHL .SUB s

/-! ### R156, SUB d8 -/

def execSub_d8 (n : Byte) (s : State) : Result := aluValue .SUB n s

/-! ### R157, SBC A,r -/

def execSbc_A_B (s : State) : Result := aluReg .SBC .B s
def execSbc_A_C (s : State) : Result := aluReg .SBC .C s
def execSbc_A_D (s : State) : Result := aluReg .SBC .D s
def execSbc_A_E (s : State) : Result := aluReg .SBC .E s
def execSbc_A_H (s : State) : Result := aluReg .SBC .H s
def execSbc_A_L (s : State) : Result := aluReg .SBC .L s
def execSbc_A_A (s : State) : Result := aluReg .SBC .A s

/-! ### R158, SBC A,(HL) -/

def execSbc_A_atHL (s : State) : Result := aluAtHL .SBC s

/-! ### R159, SBC A,d8 -/

def execSbc_A_d8 (n : Byte) (s : State) : Result := aluValue .SBC n s

/-! ### R160, AND r -/

def execAnd_B (s : State) : Result := aluReg .AND .B s
def execAnd_C (s : State) : Result := aluReg .AND .C s
def execAnd_D (s : State) : Result := aluReg .AND .D s
def execAnd_E (s : State) : Result := aluReg .AND .E s
def execAnd_H (s : State) : Result := aluReg .AND .H s
def execAnd_L (s : State) : Result := aluReg .AND .L s
def execAnd_A (s : State) : Result := aluReg .AND .A s

/-! ### R161, AND (HL) -/

def execAnd_atHL (s : State) : Result := aluAtHL .AND s

/-! ### R162, AND d8 -/

def execAnd_d8 (n : Byte) (s : State) : Result := aluValue .AND n s

/-! ### R163, XOR r -/

def execXor_B (s : State) : Result := aluReg .XOR .B s
def execXor_C (s : State) : Result := aluReg .XOR .C s
def execXor_D (s : State) : Result := aluReg .XOR .D s
def execXor_E (s : State) : Result := aluReg .XOR .E s
def execXor_H (s : State) : Result := aluReg .XOR .H s
def execXor_L (s : State) : Result := aluReg .XOR .L s
def execXor_A (s : State) : Result := aluReg .XOR .A s

/-! ### R164, XOR (HL) -/

def execXor_atHL (s : State) : Result := aluAtHL .XOR s

/-! ### R165, XOR d8 -/

def execXor_d8 (n : Byte) (s : State) : Result := aluValue .XOR n s

/-! ### R166, OR r -/

def execOr_B (s : State) : Result := aluReg .OR .B s
def execOr_C (s : State) : Result := aluReg .OR .C s
def execOr_D (s : State) : Result := aluReg .OR .D s
def execOr_E (s : State) : Result := aluReg .OR .E s
def execOr_H (s : State) : Result := aluReg .OR .H s
def execOr_L (s : State) : Result := aluReg .OR .L s
def execOr_A (s : State) : Result := aluReg .OR .A s

/-! ### R167, OR (HL) -/

def execOr_atHL (s : State) : Result := aluAtHL .OR s

/-! ### R168, OR d8 -/

def execOr_d8 (n : Byte) (s : State) : Result := aluValue .OR n s

/-! ### R169, CP r -/

def execCp_B (s : State) : Result := aluReg .CP .B s
def execCp_C (s : State) : Result := aluReg .CP .C s
def execCp_D (s : State) : Result := aluReg .CP .D s
def execCp_E (s : State) : Result := aluReg .CP .E s
def execCp_H (s : State) : Result := aluReg .CP .H s
def execCp_L (s : State) : Result := aluReg .CP .L s
def execCp_A (s : State) : Result := aluReg .CP .A s

/-! ### R170, CP (HL) -/

def execCp_atHL (s : State) : Result := aluAtHL .CP s

/-! ### R171, CP d8 -/

def execCp_d8 (n : Byte) (s : State) : Result := aluValue .CP n s

/-! ### R172, INC r -/

def execInc_B (s : State) : Result := incReg .B s
def execInc_C (s : State) : Result := incReg .C s
def execInc_D (s : State) : Result := incReg .D s
def execInc_E (s : State) : Result := incReg .E s
def execInc_H (s : State) : Result := incReg .H s
def execInc_L (s : State) : Result := incReg .L s
def execInc_A (s : State) : Result := incReg .A s

/-! ### R173, INC (HL) -/

def execInc_atHL (s : State) : Result := incAtHL s

/-! ### R174, DEC r -/

def execDec_B (s : State) : Result := decReg .B s
def execDec_C (s : State) : Result := decReg .C s
def execDec_D (s : State) : Result := decReg .D s
def execDec_E (s : State) : Result := decReg .E s
def execDec_H (s : State) : Result := decReg .H s
def execDec_L (s : State) : Result := decReg .L s
def execDec_A (s : State) : Result := decReg .A s

/-! ### R175, DEC (HL) -/

def execDec_atHL (s : State) : Result := decAtHL s

end Sys2Proof.Machine
end

