-- ==== Sys2Proof/Machine/Bit.lean ====
section
/-! DEFINITION. Bit test, set and reset (spec/44_bit.md R210-R216). PC is Next-PC. The shared operations are the
handler-level interface of R261: their index is a byte, and one above 7 raises `BitIndexFault` with nothing written. -/

namespace Sys2Proof.Machine

/-! ## Shared operations -/

/-- The flags of BIT: `flags(Z, 0, 1, -)` (R211). -/
def bitTestFlags (z c : Bool) : Byte := flagByte z false true c

/-- BIT i,r; RES i,r; SET i,r for any index byte (R210, R211, R213, R215). -/
def bitReg (kind : BitKind) (i : Byte) (r : Reg8) (s : State) : Result :=
  match bitUnit kind i (s.reg r) with
  | .error f => raise f
  | .ok o =>
    match kind with
    | .TEST => .next (s.writeF (bitTestFlags o.z s.flagC))
    | .SET => .next (s.setReg r o.res)
    | .RESET => .next (s.setReg r o.res)

/-- BIT i,(HL), one read; RES i,(HL) and SET i,(HL), one read and one write (R212, R214, R216). The read comes before the bit
unit, so a fault leaves it made: see `State.settleBit` (log entry 18). -/
def bitAtHL (kind : BitKind) (i : Byte) (s : State) : Result :=
  match bitUnit kind i (s.portValue s.HL) with
  | .error f => raise f
  | .ok o =>
    match kind with
    | .TEST => .next ((s.afterRead s.HL).writeF (bitTestFlags o.z s.flagC))
    | .SET => .next ((s.afterRead s.HL).writeByte s.HL o.res)
    | .RESET => .next ((s.afterRead s.HL).writeByte s.HL o.res)

/-- The state in which a bit handler called at `s` reaches its bit unit: a register operand is no access, the byte at HL is
read first (`v <- MemRead(HL, 1)`, R212, R214, R216). -/
def State.bitOperandRead (s : State) (o : RField) : State :=
  match o with
  | .reg _ => s
  | .atHL => s.afterRead s.HL

/-- The state in which the result `r` of the bit handler for the operand `o`, called at `s`, leaves the core. A bit-index
fault writes nothing (R260, R261); that the read of HL made before it stays on record, an IO event and a draw at
0xFF00-0xFFFF under ORACLE, is the model's choice (log entry 18). -/
def State.settleBit (s : State) (o : RField) (r : Result) : State := (s.bitOperandRead o).settleAt r

/-! ## The instructions -/

/-! ### R211, BIT b,r -/

def execBit_0_B (s : State) : Result := bitReg .TEST 0 .B s
def execBit_0_C (s : State) : Result := bitReg .TEST 0 .C s
def execBit_0_D (s : State) : Result := bitReg .TEST 0 .D s
def execBit_0_E (s : State) : Result := bitReg .TEST 0 .E s
def execBit_0_H (s : State) : Result := bitReg .TEST 0 .H s
def execBit_0_L (s : State) : Result := bitReg .TEST 0 .L s
def execBit_0_A (s : State) : Result := bitReg .TEST 0 .A s
def execBit_1_B (s : State) : Result := bitReg .TEST 1 .B s
def execBit_1_C (s : State) : Result := bitReg .TEST 1 .C s
def execBit_1_D (s : State) : Result := bitReg .TEST 1 .D s
def execBit_1_E (s : State) : Result := bitReg .TEST 1 .E s
def execBit_1_H (s : State) : Result := bitReg .TEST 1 .H s
def execBit_1_L (s : State) : Result := bitReg .TEST 1 .L s
def execBit_1_A (s : State) : Result := bitReg .TEST 1 .A s
def execBit_2_B (s : State) : Result := bitReg .TEST 2 .B s
def execBit_2_C (s : State) : Result := bitReg .TEST 2 .C s
def execBit_2_D (s : State) : Result := bitReg .TEST 2 .D s
def execBit_2_E (s : State) : Result := bitReg .TEST 2 .E s
def execBit_2_H (s : State) : Result := bitReg .TEST 2 .H s
def execBit_2_L (s : State) : Result := bitReg .TEST 2 .L s
def execBit_2_A (s : State) : Result := bitReg .TEST 2 .A s
def execBit_3_B (s : State) : Result := bitReg .TEST 3 .B s
def execBit_3_C (s : State) : Result := bitReg .TEST 3 .C s
def execBit_3_D (s : State) : Result := bitReg .TEST 3 .D s
def execBit_3_E (s : State) : Result := bitReg .TEST 3 .E s
def execBit_3_H (s : State) : Result := bitReg .TEST 3 .H s
def execBit_3_L (s : State) : Result := bitReg .TEST 3 .L s
def execBit_3_A (s : State) : Result := bitReg .TEST 3 .A s
def execBit_4_B (s : State) : Result := bitReg .TEST 4 .B s
def execBit_4_C (s : State) : Result := bitReg .TEST 4 .C s
def execBit_4_D (s : State) : Result := bitReg .TEST 4 .D s
def execBit_4_E (s : State) : Result := bitReg .TEST 4 .E s
def execBit_4_H (s : State) : Result := bitReg .TEST 4 .H s
def execBit_4_L (s : State) : Result := bitReg .TEST 4 .L s
def execBit_4_A (s : State) : Result := bitReg .TEST 4 .A s
def execBit_5_B (s : State) : Result := bitReg .TEST 5 .B s
def execBit_5_C (s : State) : Result := bitReg .TEST 5 .C s
def execBit_5_D (s : State) : Result := bitReg .TEST 5 .D s
def execBit_5_E (s : State) : Result := bitReg .TEST 5 .E s
def execBit_5_H (s : State) : Result := bitReg .TEST 5 .H s
def execBit_5_L (s : State) : Result := bitReg .TEST 5 .L s
def execBit_5_A (s : State) : Result := bitReg .TEST 5 .A s
def execBit_6_B (s : State) : Result := bitReg .TEST 6 .B s
def execBit_6_C (s : State) : Result := bitReg .TEST 6 .C s
def execBit_6_D (s : State) : Result := bitReg .TEST 6 .D s
def execBit_6_E (s : State) : Result := bitReg .TEST 6 .E s
def execBit_6_H (s : State) : Result := bitReg .TEST 6 .H s
def execBit_6_L (s : State) : Result := bitReg .TEST 6 .L s
def execBit_6_A (s : State) : Result := bitReg .TEST 6 .A s
def execBit_7_B (s : State) : Result := bitReg .TEST 7 .B s
def execBit_7_C (s : State) : Result := bitReg .TEST 7 .C s
def execBit_7_D (s : State) : Result := bitReg .TEST 7 .D s
def execBit_7_E (s : State) : Result := bitReg .TEST 7 .E s
def execBit_7_H (s : State) : Result := bitReg .TEST 7 .H s
def execBit_7_L (s : State) : Result := bitReg .TEST 7 .L s
def execBit_7_A (s : State) : Result := bitReg .TEST 7 .A s

/-! ### R212, BIT b,(HL) -/

def execBit_0_atHL (s : State) : Result := bitAtHL .TEST 0 s
def execBit_1_atHL (s : State) : Result := bitAtHL .TEST 1 s
def execBit_2_atHL (s : State) : Result := bitAtHL .TEST 2 s
def execBit_3_atHL (s : State) : Result := bitAtHL .TEST 3 s
def execBit_4_atHL (s : State) : Result := bitAtHL .TEST 4 s
def execBit_5_atHL (s : State) : Result := bitAtHL .TEST 5 s
def execBit_6_atHL (s : State) : Result := bitAtHL .TEST 6 s
def execBit_7_atHL (s : State) : Result := bitAtHL .TEST 7 s

/-! ### R213, RES b,r -/

def execRes_0_B (s : State) : Result := bitReg .RESET 0 .B s
def execRes_0_C (s : State) : Result := bitReg .RESET 0 .C s
def execRes_0_D (s : State) : Result := bitReg .RESET 0 .D s
def execRes_0_E (s : State) : Result := bitReg .RESET 0 .E s
def execRes_0_H (s : State) : Result := bitReg .RESET 0 .H s
def execRes_0_L (s : State) : Result := bitReg .RESET 0 .L s
def execRes_0_A (s : State) : Result := bitReg .RESET 0 .A s
def execRes_1_B (s : State) : Result := bitReg .RESET 1 .B s
def execRes_1_C (s : State) : Result := bitReg .RESET 1 .C s
def execRes_1_D (s : State) : Result := bitReg .RESET 1 .D s
def execRes_1_E (s : State) : Result := bitReg .RESET 1 .E s
def execRes_1_H (s : State) : Result := bitReg .RESET 1 .H s
def execRes_1_L (s : State) : Result := bitReg .RESET 1 .L s
def execRes_1_A (s : State) : Result := bitReg .RESET 1 .A s
def execRes_2_B (s : State) : Result := bitReg .RESET 2 .B s
def execRes_2_C (s : State) : Result := bitReg .RESET 2 .C s
def execRes_2_D (s : State) : Result := bitReg .RESET 2 .D s
def execRes_2_E (s : State) : Result := bitReg .RESET 2 .E s
def execRes_2_H (s : State) : Result := bitReg .RESET 2 .H s
def execRes_2_L (s : State) : Result := bitReg .RESET 2 .L s
def execRes_2_A (s : State) : Result := bitReg .RESET 2 .A s
def execRes_3_B (s : State) : Result := bitReg .RESET 3 .B s
def execRes_3_C (s : State) : Result := bitReg .RESET 3 .C s
def execRes_3_D (s : State) : Result := bitReg .RESET 3 .D s
def execRes_3_E (s : State) : Result := bitReg .RESET 3 .E s
def execRes_3_H (s : State) : Result := bitReg .RESET 3 .H s
def execRes_3_L (s : State) : Result := bitReg .RESET 3 .L s
def execRes_3_A (s : State) : Result := bitReg .RESET 3 .A s
def execRes_4_B (s : State) : Result := bitReg .RESET 4 .B s
def execRes_4_C (s : State) : Result := bitReg .RESET 4 .C s
def execRes_4_D (s : State) : Result := bitReg .RESET 4 .D s
def execRes_4_E (s : State) : Result := bitReg .RESET 4 .E s
def execRes_4_H (s : State) : Result := bitReg .RESET 4 .H s
def execRes_4_L (s : State) : Result := bitReg .RESET 4 .L s
def execRes_4_A (s : State) : Result := bitReg .RESET 4 .A s
def execRes_5_B (s : State) : Result := bitReg .RESET 5 .B s
def execRes_5_C (s : State) : Result := bitReg .RESET 5 .C s
def execRes_5_D (s : State) : Result := bitReg .RESET 5 .D s
def execRes_5_E (s : State) : Result := bitReg .RESET 5 .E s
def execRes_5_H (s : State) : Result := bitReg .RESET 5 .H s
def execRes_5_L (s : State) : Result := bitReg .RESET 5 .L s
def execRes_5_A (s : State) : Result := bitReg .RESET 5 .A s
def execRes_6_B (s : State) : Result := bitReg .RESET 6 .B s
def execRes_6_C (s : State) : Result := bitReg .RESET 6 .C s
def execRes_6_D (s : State) : Result := bitReg .RESET 6 .D s
def execRes_6_E (s : State) : Result := bitReg .RESET 6 .E s
def execRes_6_H (s : State) : Result := bitReg .RESET 6 .H s
def execRes_6_L (s : State) : Result := bitReg .RESET 6 .L s
def execRes_6_A (s : State) : Result := bitReg .RESET 6 .A s
def execRes_7_B (s : State) : Result := bitReg .RESET 7 .B s
def execRes_7_C (s : State) : Result := bitReg .RESET 7 .C s
def execRes_7_D (s : State) : Result := bitReg .RESET 7 .D s
def execRes_7_E (s : State) : Result := bitReg .RESET 7 .E s
def execRes_7_H (s : State) : Result := bitReg .RESET 7 .H s
def execRes_7_L (s : State) : Result := bitReg .RESET 7 .L s
def execRes_7_A (s : State) : Result := bitReg .RESET 7 .A s

/-! ### R214, RES b,(HL) -/

def execRes_0_atHL (s : State) : Result := bitAtHL .RESET 0 s
def execRes_1_atHL (s : State) : Result := bitAtHL .RESET 1 s
def execRes_2_atHL (s : State) : Result := bitAtHL .RESET 2 s
def execRes_3_atHL (s : State) : Result := bitAtHL .RESET 3 s
def execRes_4_atHL (s : State) : Result := bitAtHL .RESET 4 s
def execRes_5_atHL (s : State) : Result := bitAtHL .RESET 5 s
def execRes_6_atHL (s : State) : Result := bitAtHL .RESET 6 s
def execRes_7_atHL (s : State) : Result := bitAtHL .RESET 7 s

/-! ### R215, SET b,r -/

def execSet_0_B (s : State) : Result := bitReg .SET 0 .B s
def execSet_0_C (s : State) : Result := bitReg .SET 0 .C s
def execSet_0_D (s : State) : Result := bitReg .SET 0 .D s
def execSet_0_E (s : State) : Result := bitReg .SET 0 .E s
def execSet_0_H (s : State) : Result := bitReg .SET 0 .H s
def execSet_0_L (s : State) : Result := bitReg .SET 0 .L s
def execSet_0_A (s : State) : Result := bitReg .SET 0 .A s
def execSet_1_B (s : State) : Result := bitReg .SET 1 .B s
def execSet_1_C (s : State) : Result := bitReg .SET 1 .C s
def execSet_1_D (s : State) : Result := bitReg .SET 1 .D s
def execSet_1_E (s : State) : Result := bitReg .SET 1 .E s
def execSet_1_H (s : State) : Result := bitReg .SET 1 .H s
def execSet_1_L (s : State) : Result := bitReg .SET 1 .L s
def execSet_1_A (s : State) : Result := bitReg .SET 1 .A s
def execSet_2_B (s : State) : Result := bitReg .SET 2 .B s
def execSet_2_C (s : State) : Result := bitReg .SET 2 .C s
def execSet_2_D (s : State) : Result := bitReg .SET 2 .D s
def execSet_2_E (s : State) : Result := bitReg .SET 2 .E s
def execSet_2_H (s : State) : Result := bitReg .SET 2 .H s
def execSet_2_L (s : State) : Result := bitReg .SET 2 .L s
def execSet_2_A (s : State) : Result := bitReg .SET 2 .A s
def execSet_3_B (s : State) : Result := bitReg .SET 3 .B s
def execSet_3_C (s : State) : Result := bitReg .SET 3 .C s
def execSet_3_D (s : State) : Result := bitReg .SET 3 .D s
def execSet_3_E (s : State) : Result := bitReg .SET 3 .E s
def execSet_3_H (s : State) : Result := bitReg .SET 3 .H s
def execSet_3_L (s : State) : Result := bitReg .SET 3 .L s
def execSet_3_A (s : State) : Result := bitReg .SET 3 .A s
def execSet_4_B (s : State) : Result := bitReg .SET 4 .B s
def execSet_4_C (s : State) : Result := bitReg .SET 4 .C s
def execSet_4_D (s : State) : Result := bitReg .SET 4 .D s
def execSet_4_E (s : State) : Result := bitReg .SET 4 .E s
def execSet_4_H (s : State) : Result := bitReg .SET 4 .H s
def execSet_4_L (s : State) : Result := bitReg .SET 4 .L s
def execSet_4_A (s : State) : Result := bitReg .SET 4 .A s
def execSet_5_B (s : State) : Result := bitReg .SET 5 .B s
def execSet_5_C (s : State) : Result := bitReg .SET 5 .C s
def execSet_5_D (s : State) : Result := bitReg .SET 5 .D s
def execSet_5_E (s : State) : Result := bitReg .SET 5 .E s
def execSet_5_H (s : State) : Result := bitReg .SET 5 .H s
def execSet_5_L (s : State) : Result := bitReg .SET 5 .L s
def execSet_5_A (s : State) : Result := bitReg .SET 5 .A s
def execSet_6_B (s : State) : Result := bitReg .SET 6 .B s
def execSet_6_C (s : State) : Result := bitReg .SET 6 .C s
def execSet_6_D (s : State) : Result := bitReg .SET 6 .D s
def execSet_6_E (s : State) : Result := bitReg .SET 6 .E s
def execSet_6_H (s : State) : Result := bitReg .SET 6 .H s
def execSet_6_L (s : State) : Result := bitReg .SET 6 .L s
def execSet_6_A (s : State) : Result := bitReg .SET 6 .A s
def execSet_7_B (s : State) : Result := bitReg .SET 7 .B s
def execSet_7_C (s : State) : Result := bitReg .SET 7 .C s
def execSet_7_D (s : State) : Result := bitReg .SET 7 .D s
def execSet_7_E (s : State) : Result := bitReg .SET 7 .E s
def execSet_7_H (s : State) : Result := bitReg .SET 7 .H s
def execSet_7_L (s : State) : Result := bitReg .SET 7 .L s
def execSet_7_A (s : State) : Result := bitReg .SET 7 .A s

/-! ### R216, SET b,(HL) -/

def execSet_0_atHL (s : State) : Result := bitAtHL .SET 0 s
def execSet_1_atHL (s : State) : Result := bitAtHL .SET 1 s
def execSet_2_atHL (s : State) : Result := bitAtHL .SET 2 s
def execSet_3_atHL (s : State) : Result := bitAtHL .SET 3 s
def execSet_4_atHL (s : State) : Result := bitAtHL .SET 4 s
def execSet_5_atHL (s : State) : Result := bitAtHL .SET 5 s
def execSet_6_atHL (s : State) : Result := bitAtHL .SET 6 s
def execSet_7_atHL (s : State) : Result := bitAtHL .SET 7 s

end Sys2Proof.Machine
end

