-- ==== Sys2Proof/Machine/RotateShift.lean ====
section
/-! DEFINITION. The rotates and shifts (spec/43_rotate_shift.md R190-R208). PC is Next-PC. SWAP, the sixth operation of the
same unit, is in Misc.lean. -/

namespace Sys2Proof.Machine

/-! ## Shared operations -/

/-- The accumulator rotates: Z by the profile, N = H = 0, C the departing bit (R190-R193). -/
def rotA (op : RotOp) (s : State) : Result :=
  let o := rotShift op s.A s.flagC
  .next ((s.setReg .A o.res).writeF (flagByte (rotAZero s.launch.flagProfile o.res) false false o.cout))

/-- A CB rotate, shift or SWAP of a register (R194, R195). -/
def rotReg (op : RotOp) (r : Reg8) (s : State) : Result :=
  let o := rotShift op (s.reg r) s.flagC
  .next ((s.setReg r o.res).writeF (shiftFlags o))

/-- A CB rotate, shift or SWAP of the byte at HL: one read, then one write (R194, R196). -/
def rotAtHL (op : RotOp) (s : State) : Result :=
  let o := rotShift op (s.portValue s.HL) s.flagC
  .next (((s.afterRead s.HL).writeByte s.HL o.res).writeF (shiftFlags o))

/-! ## The instructions -/

/-! ### R190, RLCA -/

def execRlca (s : State) : Result := rotA .RLC s

/-! ### R191, RRCA -/

def execRrca (s : State) : Result := rotA .RRC s

/-! ### R192, RLA -/

def execRla (s : State) : Result := rotA .RL s

/-! ### R193, RRA -/

def execRra (s : State) : Result := rotA .RR s

/-! ### R195, RLC r -/

def execRlc_B (s : State) : Result := rotReg .RLC .B s
def execRlc_C (s : State) : Result := rotReg .RLC .C s
def execRlc_D (s : State) : Result := rotReg .RLC .D s
def execRlc_E (s : State) : Result := rotReg .RLC .E s
def execRlc_H (s : State) : Result := rotReg .RLC .H s
def execRlc_L (s : State) : Result := rotReg .RLC .L s
def execRlc_A (s : State) : Result := rotReg .RLC .A s

/-! ### R196, RLC (HL) -/

def execRlc_atHL (s : State) : Result := rotAtHL .RLC s

/-! ### R197, RRC r -/

def execRrc_B (s : State) : Result := rotReg .RRC .B s
def execRrc_C (s : State) : Result := rotReg .RRC .C s
def execRrc_D (s : State) : Result := rotReg .RRC .D s
def execRrc_E (s : State) : Result := rotReg .RRC .E s
def execRrc_H (s : State) : Result := rotReg .RRC .H s
def execRrc_L (s : State) : Result := rotReg .RRC .L s
def execRrc_A (s : State) : Result := rotReg .RRC .A s

/-! ### R198, RRC (HL) -/

def execRrc_atHL (s : State) : Result := rotAtHL .RRC s

/-! ### R199, RL r -/

def execRl_B (s : State) : Result := rotReg .RL .B s
def execRl_C (s : State) : Result := rotReg .RL .C s
def execRl_D (s : State) : Result := rotReg .RL .D s
def execRl_E (s : State) : Result := rotReg .RL .E s
def execRl_H (s : State) : Result := rotReg .RL .H s
def execRl_L (s : State) : Result := rotReg .RL .L s
def execRl_A (s : State) : Result := rotReg .RL .A s

/-! ### R200, RL (HL) -/

def execRl_atHL (s : State) : Result := rotAtHL .RL s

/-! ### R201, RR r -/

def execRr_B (s : State) : Result := rotReg .RR .B s
def execRr_C (s : State) : Result := rotReg .RR .C s
def execRr_D (s : State) : Result := rotReg .RR .D s
def execRr_E (s : State) : Result := rotReg .RR .E s
def execRr_H (s : State) : Result := rotReg .RR .H s
def execRr_L (s : State) : Result := rotReg .RR .L s
def execRr_A (s : State) : Result := rotReg .RR .A s

/-! ### R202, RR (HL) -/

def execRr_atHL (s : State) : Result := rotAtHL .RR s

/-! ### R203, SLA r -/

def execSla_B (s : State) : Result := rotReg .SLA .B s
def execSla_C (s : State) : Result := rotReg .SLA .C s
def execSla_D (s : State) : Result := rotReg .SLA .D s
def execSla_E (s : State) : Result := rotReg .SLA .E s
def execSla_H (s : State) : Result := rotReg .SLA .H s
def execSla_L (s : State) : Result := rotReg .SLA .L s
def execSla_A (s : State) : Result := rotReg .SLA .A s

/-! ### R204, SLA (HL) -/

def execSla_atHL (s : State) : Result := rotAtHL .SLA s

/-! ### R205, SRA r -/

def execSra_B (s : State) : Result := rotReg .SRA .B s
def execSra_C (s : State) : Result := rotReg .SRA .C s
def execSra_D (s : State) : Result := rotReg .SRA .D s
def execSra_E (s : State) : Result := rotReg .SRA .E s
def execSra_H (s : State) : Result := rotReg .SRA .H s
def execSra_L (s : State) : Result := rotReg .SRA .L s
def execSra_A (s : State) : Result := rotReg .SRA .A s

/-! ### R206, SRA (HL) -/

def execSra_atHL (s : State) : Result := rotAtHL .SRA s

/-! ### R207, SRL r -/

def execSrl_B (s : State) : Result := rotReg .SRL .B s
def execSrl_C (s : State) : Result := rotReg .SRL .C s
def execSrl_D (s : State) : Result := rotReg .SRL .D s
def execSrl_E (s : State) : Result := rotReg .SRL .E s
def execSrl_H (s : State) : Result := rotReg .SRL .H s
def execSrl_L (s : State) : Result := rotReg .SRL .L s
def execSrl_A (s : State) : Result := rotReg .SRL .A s

/-! ### R208, SRL (HL) -/

def execSrl_atHL (s : State) : Result := rotAtHL .SRL s

end Sys2Proof.Machine
end

