-- ==== Sys2Proof/Machine/Misc.lean ====
section
/-! DEFINITION. SWAP, DAA, CPL, CCF, SCF, NOP, the refused and the illegal opcodes (spec/46_misc.md R240-R252). PC is
Next-PC. A refusal or a fault writes nothing, the PC advance included (spec/60_exceptions.md R260, R262). -/

namespace Sys2Proof.Machine

/-! ## Shared operations -/

/-- DAA by the profile (R241). -/
def decimalAdjust (s : State) : Result :=
  let o := daa s.launch.flagProfile s.A s.flagN s.flagH s.flagC
  .next ((s.setReg .A o.res).writeF o.flags)

/-- `A <- ~A; F <- flags(-, 1, 1, -)` (R242). -/
def complementA (s : State) : Result := .next ((s.setReg .A (~~~s.A)).writeF (flagByte s.flagZ true true s.flagC))

/-- `F <- flags(-, 0, 0, ~F.C)` (R243). -/
def complementCarry (s : State) : Result := .next (s.writeF (flagByte s.flagZ false false (!s.flagC)))

/-- `F <- flags(-, 0, 0, 1)` (R244). -/
def setCarry (s : State) : Result := .next (s.writeF (flagByte s.flagZ false false true))

/-- Nothing but the PC advance, which the fetch has made (R246). -/
def nop (s : State) : Result := .next s

/-! ## The instructions -/

/-! ### R240, SWAP r -/

def execSwap_B (s : State) : Result := rotReg .SWAP .B s
def execSwap_C (s : State) : Result := rotReg .SWAP .C s
def execSwap_D (s : State) : Result := rotReg .SWAP .D s
def execSwap_E (s : State) : Result := rotReg .SWAP .E s
def execSwap_H (s : State) : Result := rotReg .SWAP .H s
def execSwap_L (s : State) : Result := rotReg .SWAP .L s
def execSwap_A (s : State) : Result := rotReg .SWAP .A s

/-! ### R241, DAA -/

def execDaa (s : State) : Result := decimalAdjust s

/-! ### R242, CPL -/

def execCpl (s : State) : Result := complementA s

/-! ### R243, CCF -/

def execCcf (s : State) : Result := complementCarry s

/-! ### R244, SCF -/

def execScf (s : State) : Result := setCarry s

/-! ### R245, SWAP (HL) -/

def execSwap_atHL (s : State) : Result := rotAtHL .SWAP s

/-! ### R246, NOP -/

def execNop (s : State) : Result := nop s

/-! ### R247, HALT (0x76) -/

def execHalt (_ : State) : Result := refuse 0x76

/-! ### R248, STOP (0x10) -/

def execStop (_ : State) : Result := refuse 0x10

/-! ### R249, DI (0xF3) -/

def execDi (_ : State) : Result := refuse 0xF3

/-! ### R250, EI (0xFB) -/

def execEi (_ : State) : Result := refuse 0xFB

/-! ### R251, RETI (0xD9) -/

def execReti (_ : State) : Result := refuse 0xD9

/-! ### R252, ILLEGAL -/

def execIllegal_D3 (_ : State) : Result := raise (.illegalOpcode 0xD3)
def execIllegal_DB (_ : State) : Result := raise (.illegalOpcode 0xDB)
def execIllegal_DD (_ : State) : Result := raise (.illegalOpcode 0xDD)
def execIllegal_E3 (_ : State) : Result := raise (.illegalOpcode 0xE3)
def execIllegal_E4 (_ : State) : Result := raise (.illegalOpcode 0xE4)
def execIllegal_EB (_ : State) : Result := raise (.illegalOpcode 0xEB)
def execIllegal_EC (_ : State) : Result := raise (.illegalOpcode 0xEC)
def execIllegal_ED (_ : State) : Result := raise (.illegalOpcode 0xED)
def execIllegal_F4 (_ : State) : Result := raise (.illegalOpcode 0xF4)
def execIllegal_FC (_ : State) : Result := raise (.illegalOpcode 0xFC)
def execIllegal_FD (_ : State) : Result := raise (.illegalOpcode 0xFD)

end Sys2Proof.Machine
end

