-- ==== Sys2Proof/Machine/CbPrefix.lean ====
section
/-! DEFINITION. The table's row for the byte 0xCB itself: the prefix with its CB byte, as the one 2-byte instruction R64
makes of them, by the fields of the CB byte (spec/30_encoding.md R64, R70, R75, R76; log entry 9). -/

namespace Sys2Proof.Machine

/-- `cb[7:6]` selects the group, `cb[5:3]` the operation or the bit index, `cb[2:0]` the operand (R64). -/
def prefixed (cb : Byte) (s : State) : Result :=
  let i : Byte := (cb >>> 3) &&& 7
  match fieldX cb, RField.ofField (fieldZ cb) with
  | 0, .reg r => rotReg (.ofField (fieldY cb)) r s
  | 0, .atHL => rotAtHL (.ofField (fieldY cb)) s
  | 1, .reg r => bitReg .TEST i r s
  | 1, .atHL => bitAtHL .TEST i s
  | 2, .reg r => bitReg .RESET i r s
  | 2, .atHL => bitAtHL .RESET i s
  | _, .reg r => bitReg .SET i r s
  | _, .atHL => bitAtHL .SET i s

/-! ### R64, The CB prefix -/

def execPrefix_CB (cb : Byte) (s : State) : Result := prefixed cb s

end Sys2Proof.Machine
end

