-- ==== Sys2Proof/Machine/Loads.lean ====
section
/-! DEFINITION. The loads, stores and the stack sequencer (spec/40_loads.md R100-R129). PC is Next-PC. No load writes F
but LD HL,SP+e8 and POP AF (R122). -/

namespace Sys2Proof.Machine

/-! ## Shared operations -/

/-- `r <- r'`. -/
def ldRegReg (d r : Reg8) (s : State) : Result := .next (s.setReg d (s.reg r))

/-- `r <- imm8`. -/
def ldRegImm (d : Reg8) (n : Byte) (s : State) : Result := .next (s.setReg d n)

/-- `r <- MemRead(a, 1)`, the address formed before the write of `r`. -/
def ldRegAt (d : Reg8) (a : Addr) (s : State) : Result := .next ((s.afterRead a).setReg d (s.portValue a))

/-- `MemWrite(a, 1, v)`. -/
def storeAt (a : Addr) (v : Byte) (s : State) : Result := .next (s.writeByte a v)

/-- `A <- MemRead(p, 1)`, then the pointer's adjustment (R123). -/
def ldAInd (p : IndPtr) (s : State) : Result :=
  .next (((s.afterRead (s.indAddr p)).setReg .A (s.portValue (s.indAddr p))).indAdjust p)

/-- `MemWrite(p, 1, A)`, then the pointer's adjustment (R123). -/
def ldIndA (p : IndPtr) (s : State) : Result := .next ((s.writeByte (s.indAddr p) s.A).indAdjust p)

/-- `rr <- imm16`. -/
def ldPairImm (rr : Reg16) (nn : Addr) (s : State) : Result := .next (s.setPair rr nn)

/-- LD (a16),SP: the low byte at a16, then the high byte at a16+1 (R120). -/
def storeSP (nn : Addr) (s : State) : Result := .next (s.writeWord nn s.SP)

/-- LD SP,HL (R121). -/
def ldSPHL (s : State) : Result := .next { s with SP := s.HL }

/-- LD HL,SP+e8 with the flags of the profile (R124, R125). -/
def ldHLSPe8 (e : Byte) (s : State) : Result :=
  let o := spAdd s.SP e
  .next ((s.setHL o.sum).writeF (ldHLSpFlags s.launch.flagProfile o))

/-! ### The stack sequencer -/

/-- One write of the sequencer: SP is decremented before it. -/
def State.pushByte (s : State) (v : Byte) : State := { s with SP := s.SP - 1 }.writeByte (s.SP - 1) v

/-- `StackPush(v)`: high byte, then low byte (R126). -/
def State.stackPush (s : State) (v : Addr) : State := (s.pushByte (hiByte v)).pushByte (loByte v)

/-- The state after one read of the sequencer: SP is incremented after it. -/
def State.afterPopByte (s : State) : State := { s.afterRead s.SP with SP := s.SP + 1 }

/-- The value `StackPop()` returns: low byte, then high byte (R127). -/
def State.popValue (s : State) : Addr :=
  word16 (s.afterPopByte.portValue s.afterPopByte.SP) (s.portValue s.SP)

/-- The state after `StackPop()` (R127). -/
def State.afterPop (s : State) : State := s.afterPopByte.afterPopByte

/-- `StackPush(qq)`. -/
def push (qq : StackReg) (s : State) : Result := .next (s.stackPush (s.stackPair qq))

/-- `qq <- StackPop()`; for AF bits 3:0 of the low byte are dropped (R129, R23). -/
def pop (qq : StackReg) (s : State) : Result := .next (s.afterPop.setStackPair qq s.popValue)

/-! ## The instructions -/

/-! ### R100, LD r,r' -/

def execLd_B_B (s : State) : Result := ldRegReg .B .B s
def execLd_B_C (s : State) : Result := ldRegReg .B .C s
def execLd_B_D (s : State) : Result := ldRegReg .B .D s
def execLd_B_E (s : State) : Result := ldRegReg .B .E s
def execLd_B_H (s : State) : Result := ldRegReg .B .H s
def execLd_B_L (s : State) : Result := ldRegReg .B .L s
def execLd_B_A (s : State) : Result := ldRegReg .B .A s
def execLd_C_B (s : State) : Result := ldRegReg .C .B s
def execLd_C_C (s : State) : Result := ldRegReg .C .C s
def execLd_C_D (s : State) : Result := ldRegReg .C .D s
def execLd_C_E (s : State) : Result := ldRegReg .C .E s
def execLd_C_H (s : State) : Result := ldRegReg .C .H s
def execLd_C_L (s : State) : Result := ldRegReg .C .L s
def execLd_C_A (s : State) : Result := ldRegReg .C .A s
def execLd_D_B (s : State) : Result := ldRegReg .D .B s
def execLd_D_C (s : State) : Result := ldRegReg .D .C s
def execLd_D_D (s : State) : Result := ldRegReg .D .D s
def execLd_D_E (s : State) : Result := ldRegReg .D .E s
def execLd_D_H (s : State) : Result := ldRegReg .D .H s
def execLd_D_L (s : State) : Result := ldRegReg .D .L s
def execLd_D_A (s : State) : Result := ldRegReg .D .A s
def execLd_E_B (s : State) : Result := ldRegReg .E .B s
def execLd_E_C (s : State) : Result := ldRegReg .E .C s
def execLd_E_D (s : State) : Result := ldRegReg .E .D s
def execLd_E_E (s : State) : Result := ldRegReg .E .E s
def execLd_E_H (s : State) : Result := ldRegReg .E .H s
def execLd_E_L (s : State) : Result := ldRegReg .E .L s
def execLd_E_A (s : State) : Result := ldRegReg .E .A s
def execLd_H_B (s : State) : Result := ldRegReg .H .B s
def execLd_H_C (s : State) : Result := ldRegReg .H .C s
def execLd_H_D (s : State) : Result := ldRegReg .H .D s
def execLd_H_E (s : State) : Result := ldRegReg .H .E s
def execLd_H_H (s : State) : Result := ldRegReg .H .H s
def execLd_H_L (s : State) : Result := ldRegReg .H .L s
def execLd_H_A (s : State) : Result := ldRegReg .H .A s
def execLd_L_B (s : State) : Result := ldRegReg .L .B s
def execLd_L_C (s : State) : Result := ldRegReg .L .C s
def execLd_L_D (s : State) : Result := ldRegReg .L .D s
def execLd_L_E (s : State) : Result := ldRegReg .L .E s
def execLd_L_H (s : State) : Result := ldRegReg .L .H s
def execLd_L_L (s : State) : Result := ldRegReg .L .L s
def execLd_L_A (s : State) : Result := ldRegReg .L .A s
def execLd_A_B (s : State) : Result := ldRegReg .A .B s
def execLd_A_C (s : State) : Result := ldRegReg .A .C s
def execLd_A_D (s : State) : Result := ldRegReg .A .D s
def execLd_A_E (s : State) : Result := ldRegReg .A .E s
def execLd_A_H (s : State) : Result := ldRegReg .A .H s
def execLd_A_L (s : State) : Result := ldRegReg .A .L s
def execLd_A_A (s : State) : Result := ldRegReg .A .A s

/-! ### R101, LD r,d8 -/

def execLd_B_d8 (n : Byte) (s : State) : Result := ldRegImm .B n s
def execLd_C_d8 (n : Byte) (s : State) : Result := ldRegImm .C n s
def execLd_D_d8 (n : Byte) (s : State) : Result := ldRegImm .D n s
def execLd_E_d8 (n : Byte) (s : State) : Result := ldRegImm .E n s
def execLd_H_d8 (n : Byte) (s : State) : Result := ldRegImm .H n s
def execLd_L_d8 (n : Byte) (s : State) : Result := ldRegImm .L n s
def execLd_A_d8 (n : Byte) (s : State) : Result := ldRegImm .A n s

/-! ### R102, LD r,(HL) -/

def execLd_B_atHL (s : State) : Result := ldRegAt .B s.HL s
def execLd_C_atHL (s : State) : Result := ldRegAt .C s.HL s
def execLd_D_atHL (s : State) : Result := ldRegAt .D s.HL s
def execLd_E_atHL (s : State) : Result := ldRegAt .E s.HL s
def execLd_H_atHL (s : State) : Result := ldRegAt .H s.HL s
def execLd_L_atHL (s : State) : Result := ldRegAt .L s.HL s
def execLd_A_atHL (s : State) : Result := ldRegAt .A s.HL s

/-! ### R103, LD (HL),r -/

def execLd_atHL_B (s : State) : Result := storeAt s.HL s.B s
def execLd_atHL_C (s : State) : Result := storeAt s.HL s.C s
def execLd_atHL_D (s : State) : Result := storeAt s.HL s.D s
def execLd_atHL_E (s : State) : Result := storeAt s.HL s.E s
def execLd_atHL_H (s : State) : Result := storeAt s.HL s.H s
def execLd_atHL_L (s : State) : Result := storeAt s.HL s.L s
def execLd_atHL_A (s : State) : Result := storeAt s.HL s.A s

/-! ### R104, LD (HL),d8 -/

def execLd_atHL_d8 (n : Byte) (s : State) : Result := storeAt s.HL n s

/-! ### R105, LD A,(BC) -/

def execLd_A_atBC (s : State) : Result := ldAInd .BC s

/-! ### R106, LD A,(DE) -/

def execLd_A_atDE (s : State) : Result := ldAInd .DE s

/-! ### R107, LD (BC),A -/

def execLd_atBC_A (s : State) : Result := ldIndA .BC s

/-! ### R108, LD (DE),A -/

def execLd_atDE_A (s : State) : Result := ldIndA .DE s

/-! ### R109, LD A,(a16) -/

def execLd_A_a16 (nn : Addr) (s : State) : Result := ldRegAt .A nn s

/-! ### R110, LD (a16),A -/

def execLd_a16_A (nn : Addr) (s : State) : Result := storeAt nn s.A s

/-! ### R111, LDH A,(a8) -/

def execLdh_A_a8 (n : Byte) (s : State) : Result := ldRegAt .A (ioPort n) s

/-! ### R112, LDH (a8),A -/

def execLdh_a8_A (n : Byte) (s : State) : Result := storeAt (ioPort n) s.A s

/-! ### R113, LD A,(C) -/

def execLd_A_atC (s : State) : Result := ldRegAt .A (ioPort s.C) s

/-! ### R114, LD (C),A -/

def execLd_atC_A (s : State) : Result := storeAt (ioPort s.C) s.A s

/-! ### R115, LD A,(HL+) -/

def execLd_A_atHLinc (s : State) : Result := ldAInd .HLinc s

/-! ### R116, LD A,(HL-) -/

def execLd_A_atHLdec (s : State) : Result := ldAInd .HLdec s

/-! ### R117, LD (HL+),A -/

def execLd_atHLinc_A (s : State) : Result := ldIndA .HLinc s

/-! ### R118, LD (HL-),A -/

def execLd_atHLdec_A (s : State) : Result := ldIndA .HLdec s

/-! ### R119, LD rr,d16 -/

def execLd_BC_d16 (nn : Addr) (s : State) : Result := ldPairImm .BC nn s
def execLd_DE_d16 (nn : Addr) (s : State) : Result := ldPairImm .DE nn s
def execLd_HL_d16 (nn : Addr) (s : State) : Result := ldPairImm .HL nn s
def execLd_SP_d16 (nn : Addr) (s : State) : Result := ldPairImm .SP nn s

/-! ### R120, LD (a16),SP -/

def execLd_a16_SP (nn : Addr) (s : State) : Result := storeSP nn s

/-! ### R121, LD SP,HL -/

def execLd_SP_HL (s : State) : Result := ldSPHL s

/-! ### R124, LD HL,SP+e8 -/

def execLd_HL_SPe8 (e : Byte) (s : State) : Result := ldHLSPe8 e s

/-! ### R128, PUSH qq -/

def execPush_BC (s : State) : Result := push .BC s
def execPush_DE (s : State) : Result := push .DE s
def execPush_HL (s : State) : Result := push .HL s
def execPush_AF (s : State) : Result := push .AF s

/-! ### R129, POP qq -/

def execPop_BC (s : State) : Result := pop .BC s
def execPop_DE (s : State) : Result := pop .DE s
def execPop_HL (s : State) : Result := pop .HL s
def execPop_AF (s : State) : Result := pop .AF s

end Sys2Proof.Machine
end

