-- ==== Sys2Proof/Machine/Control.lean ====
section
/-! DEFINITION. Jumps, calls, returns and restarts (spec/45_control.md R220-R231). PC is Next-PC on entry: it is the address
pushed and the base of a relative target (spec/30_encoding.md R62). No control transfer writes F (R220). -/

namespace Sys2Proof.Machine

/-! ## Shared operations -/

/-- REL: `trunc16(PC + sext16(e8))` (R221). -/
def relTarget (e : Byte) (s : State) : Addr := s.PC + sext16 e

/-- RST: `zext16(8 * t)` (R221). -/
def rstTarget (t : Field3) : Addr := t.toByte.setWidth 16 * 8

/-- `pc <- t`. -/
def State.goto (s : State) (t : Addr) : State := { s with PC := t }

/-- `pc <- t`. -/
def jumpTo (t : Addr) (s : State) : Result := .next (s.goto t)

/-- `if Cond(cc): pc <- t`. -/
def jumpIf (cc : Cond) (t : Addr) (s : State) : Result := if s.cond cc then jumpTo t s else .next s

/-- `StackPush(PC); pc <- t`. -/
def callTo (t : Addr) (s : State) : Result := .next ((s.stackPush s.PC).goto t)

/-- `if Cond(cc): StackPush(PC); pc <- t`. -/
def callIf (cc : Cond) (t : Addr) (s : State) : Result := if s.cond cc then callTo t s else .next s

/-- `pc <- StackPop()`. -/
def ret (s : State) : Result := .next (s.afterPop.goto s.popValue)

/-- `if Cond(cc): pc <- StackPop()`. -/
def retIf (cc : Cond) (s : State) : Result := if s.cond cc then ret s else .next s

/-! ## The instructions -/

/-! ### R222, JP a16 -/

def execJp_a16 (nn : Addr) (s : State) : Result := jumpTo nn s

/-! ### R223, JP cc,a16 -/

def execJp_NZ_a16 (nn : Addr) (s : State) : Result := jumpIf .NZ nn s
def execJp_Z_a16 (nn : Addr) (s : State) : Result := jumpIf .Z nn s
def execJp_NC_a16 (nn : Addr) (s : State) : Result := jumpIf .NC nn s
def execJp_C_a16 (nn : Addr) (s : State) : Result := jumpIf .C nn s

/-! ### R224, JP (HL) -/

def execJp_HL (s : State) : Result := jumpTo s.HL s

/-! ### R225, JR e8 -/

def execJr_e8 (e : Byte) (s : State) : Result := jumpTo (relTarget e s) s

/-! ### R226, JR cc,e8 -/

def execJr_NZ_e8 (e : Byte) (s : State) : Result := jumpIf .NZ (relTarget e s) s
def execJr_Z_e8 (e : Byte) (s : State) : Result := jumpIf .Z (relTarget e s) s
def execJr_NC_e8 (e : Byte) (s : State) : Result := jumpIf .NC (relTarget e s) s
def execJr_C_e8 (e : Byte) (s : State) : Result := jumpIf .C (relTarget e s) s

/-! ### R227, CALL a16 -/

def execCall_a16 (nn : Addr) (s : State) : Result := callTo nn s

/-! ### R228, CALL cc,a16 -/

def execCall_NZ_a16 (nn : Addr) (s : State) : Result := callIf .NZ nn s
def execCall_Z_a16 (nn : Addr) (s : State) : Result := callIf .Z nn s
def execCall_NC_a16 (nn : Addr) (s : State) : Result := callIf .NC nn s
def execCall_C_a16 (nn : Addr) (s : State) : Result := callIf .C nn s

/-! ### R229, RET -/

def execRet (s : State) : Result := ret s

/-! ### R230, RET cc -/

def execRet_NZ (s : State) : Result := retIf .NZ s
def execRet_Z (s : State) : Result := retIf .Z s
def execRet_NC (s : State) : Result := retIf .NC s
def execRet_C (s : State) : Result := retIf .C s

/-! ### R231, RST t -/

def execRst_00h (s : State) : Result := callTo (rstTarget .b0) s
def execRst_08h (s : State) : Result := callTo (rstTarget .b1) s
def execRst_10h (s : State) : Result := callTo (rstTarget .b2) s
def execRst_18h (s : State) : Result := callTo (rstTarget .b3) s
def execRst_20h (s : State) : Result := callTo (rstTarget .b4) s
def execRst_28h (s : State) : Result := callTo (rstTarget .b5) s
def execRst_30h (s : State) : Result := callTo (rstTarget .b6) s
def execRst_38h (s : State) : Result := callTo (rstTarget .b7) s

end Sys2Proof.Machine
end

