-- ==== Sys2Proof/Machine/Dispatch.lean ====
section
/-! DEFINITION. The dispatch: one arm per constructor of Instr, each one direct call of its meaning. PC is Next-PC
when an arm runs (spec/30_encoding.md R62). -/

namespace Sys2Proof.Machine

def exec (i : Instr) (s : State) : Host.Outcome State Fault Refusal :=
  match i with
  -- 40_loads R100
  | .ld_B_B => Sys2Proof.Machine.execLd_B_B s
  | .ld_B_C => Sys2Proof.Machine.execLd_B_C s
  | .ld_B_D => Sys2Proof.Machine.execLd_B_D s
  | .ld_B_E => Sys2Proof.Machine.execLd_B_E s
  | .ld_B_H => Sys2Proof.Machine.execLd_B_H s
  | .ld_B_L => Sys2Proof.Machine.execLd_B_L s
  | .ld_B_A => Sys2Proof.Machine.execLd_B_A s
  | .ld_C_B => Sys2Proof.Machine.execLd_C_B s
  | .ld_C_C => Sys2Proof.Machine.execLd_C_C s
  | .ld_C_D => Sys2Proof.Machine.execLd_C_D s
  | .ld_C_E => Sys2Proof.Machine.execLd_C_E s
  | .ld_C_H => Sys2Proof.Machine.execLd_C_H s
  | .ld_C_L => Sys2Proof.Machine.execLd_C_L s
  | .ld_C_A => Sys2Proof.Machine.execLd_C_A s
  | .ld_D_B => Sys2Proof.Machine.execLd_D_B s
  | .ld_D_C => Sys2Proof.Machine.execLd_D_C s
  | .ld_D_D => Sys2Proof.Machine.execLd_D_D s
  | .ld_D_E => Sys2Proof.Machine.execLd_D_E s
  | .ld_D_H => Sys2Proof.Machine.execLd_D_H s
  | .ld_D_L => Sys2Proof.Machine.execLd_D_L s
  | .ld_D_A => Sys2Proof.Machine.execLd_D_A s
  | .ld_E_B => Sys2Proof.Machine.execLd_E_B s
  | .ld_E_C => Sys2Proof.Machine.execLd_E_C s
  | .ld_E_D => Sys2Proof.Machine.execLd_E_D s
  | .ld_E_E => Sys2Proof.Machine.execLd_E_E s
  | .ld_E_H => Sys2Proof.Machine.execLd_E_H s
  | .ld_E_L => Sys2Proof.Machine.execLd_E_L s
  | .ld_E_A => Sys2Proof.Machine.execLd_E_A s
  | .ld_H_B => Sys2Proof.Machine.execLd_H_B s
  | .ld_H_C => Sys2Proof.Machine.execLd_H_C s
  | .ld_H_D => Sys2Proof.Machine.execLd_H_D s
  | .ld_H_E => Sys2Proof.Machine.execLd_H_E s
  | .ld_H_H => Sys2Proof.Machine.execLd_H_H s
  | .ld_H_L => Sys2Proof.Machine.execLd_H_L s
  | .ld_H_A => Sys2Proof.Machine.execLd_H_A s
  | .ld_L_B => Sys2Proof.Machine.execLd_L_B s
  | .ld_L_C => Sys2Proof.Machine.execLd_L_C s
  | .ld_L_D => Sys2Proof.Machine.execLd_L_D s
  | .ld_L_E => Sys2Proof.Machine.execLd_L_E s
  | .ld_L_H => Sys2Proof.Machine.execLd_L_H s
  | .ld_L_L => Sys2Proof.Machine.execLd_L_L s
  | .ld_L_A => Sys2Proof.Machine.execLd_L_A s
  | .ld_A_B => Sys2Proof.Machine.execLd_A_B s
  | .ld_A_C => Sys2Proof.Machine.execLd_A_C s
  | .ld_A_D => Sys2Proof.Machine.execLd_A_D s
  | .ld_A_E => Sys2Proof.Machine.execLd_A_E s
  | .ld_A_H => Sys2Proof.Machine.execLd_A_H s
  | .ld_A_L => Sys2Proof.Machine.execLd_A_L s
  | .ld_A_A => Sys2Proof.Machine.execLd_A_A s
  -- 40_loads R101
  | .ld_B_d8 n => Sys2Proof.Machine.execLd_B_d8 n s
  | .ld_C_d8 n => Sys2Proof.Machine.execLd_C_d8 n s
  | .ld_D_d8 n => Sys2Proof.Machine.execLd_D_d8 n s
  | .ld_E_d8 n => Sys2Proof.Machine.execLd_E_d8 n s
  | .ld_H_d8 n => Sys2Proof.Machine.execLd_H_d8 n s
  | .ld_L_d8 n => Sys2Proof.Machine.execLd_L_d8 n s
  | .ld_A_d8 n => Sys2Proof.Machine.execLd_A_d8 n s
  -- 40_loads R102
  | .ld_B_atHL => Sys2Proof.Machine.execLd_B_atHL s
  | .ld_C_atHL => Sys2Proof.Machine.execLd_C_atHL s
  | .ld_D_atHL => Sys2Proof.Machine.execLd_D_atHL s
  | .ld_E_atHL => Sys2Proof.Machine.execLd_E_atHL s
  | .ld_H_atHL => Sys2Proof.Machine.execLd_H_atHL s
  | .ld_L_atHL => Sys2Proof.Machine.execLd_L_atHL s
  | .ld_A_atHL => Sys2Proof.Machine.execLd_A_atHL s
  -- 40_loads R103
  | .ld_atHL_B => Sys2Proof.Machine.execLd_atHL_B s
  | .ld_atHL_C => Sys2Proof.Machine.execLd_atHL_C s
  | .ld_atHL_D => Sys2Proof.Machine.execLd_atHL_D s
  | .ld_atHL_E => Sys2Proof.Machine.execLd_atHL_E s
  | .ld_atHL_H => Sys2Proof.Machine.execLd_atHL_H s
  | .ld_atHL_L => Sys2Proof.Machine.execLd_atHL_L s
  | .ld_atHL_A => Sys2Proof.Machine.execLd_atHL_A s
  -- 40_loads R104
  | .ld_atHL_d8 n => Sys2Proof.Machine.execLd_atHL_d8 n s
  -- 40_loads R105
  | .ld_A_atBC => Sys2Proof.Machine.execLd_A_atBC s
  -- 40_loads R106
  | .ld_A_atDE => Sys2Proof.Machine.execLd_A_atDE s
  -- 40_loads R107
  | .ld_atBC_A => Sys2Proof.Machine.execLd_atBC_A s
  -- 40_loads R108
  | .ld_atDE_A => Sys2Proof.Machine.execLd_atDE_A s
  -- 40_loads R109
  | .ld_A_a16 nn => Sys2Proof.Machine.execLd_A_a16 nn s
  -- 40_loads R110
  | .ld_a16_A nn => Sys2Proof.Machine.execLd_a16_A nn s
  -- 40_loads R111
  | .ldh_A_a8 n => Sys2Proof.Machine.execLdh_A_a8 n s
  -- 40_loads R112
  | .ldh_a8_A n => Sys2Proof.Machine.execLdh_a8_A n s
  -- 40_loads R113
  | .ld_A_atC => Sys2Proof.Machine.execLd_A_atC s
  -- 40_loads R114
  | .ld_atC_A => Sys2Proof.Machine.execLd_atC_A s
  -- 40_loads R115
  | .ld_A_atHLinc => Sys2Proof.Machine.execLd_A_atHLinc s
  -- 40_loads R116
  | .ld_A_atHLdec => Sys2Proof.Machine.execLd_A_atHLdec s
  -- 40_loads R117
  | .ld_atHLinc_A => Sys2Proof.Machine.execLd_atHLinc_A s
  -- 40_loads R118
  | .ld_atHLdec_A => Sys2Proof.Machine.execLd_atHLdec_A s
  -- 40_loads R119
  | .ld_BC_d16 nn => Sys2Proof.Machine.execLd_BC_d16 nn s
  | .ld_DE_d16 nn => Sys2Proof.Machine.execLd_DE_d16 nn s
  | .ld_HL_d16 nn => Sys2Proof.Machine.execLd_HL_d16 nn s
  | .ld_SP_d16 nn => Sys2Proof.Machine.execLd_SP_d16 nn s
  -- 40_loads R120
  | .ld_a16_SP nn => Sys2Proof.Machine.execLd_a16_SP nn s
  -- 40_loads R121
  | .ld_SP_HL => Sys2Proof.Machine.execLd_SP_HL s
  -- 40_loads R124
  | .ld_HL_SPe8 e => Sys2Proof.Machine.execLd_HL_SPe8 e s
  -- 40_loads R128
  | .push_BC => Sys2Proof.Machine.execPush_BC s
  | .push_DE => Sys2Proof.Machine.execPush_DE s
  | .push_HL => Sys2Proof.Machine.execPush_HL s
  | .push_AF => Sys2Proof.Machine.execPush_AF s
  -- 40_loads R129
  | .pop_BC => Sys2Proof.Machine.execPop_BC s
  | .pop_DE => Sys2Proof.Machine.execPop_DE s
  | .pop_HL => Sys2Proof.Machine.execPop_HL s
  | .pop_AF => Sys2Proof.Machine.execPop_AF s
  -- 41_alu8 R148
  | .add_A_B => Sys2Proof.Machine.execAdd_A_B s
  | .add_A_C => Sys2Proof.Machine.execAdd_A_C s
  | .add_A_D => Sys2Proof.Machine.execAdd_A_D s
  | .add_A_E => Sys2Proof.Machine.execAdd_A_E s
  | .add_A_H => Sys2Proof.Machine.execAdd_A_H s
  | .add_A_L => Sys2Proof.Machine.execAdd_A_L s
  | .add_A_A => Sys2Proof.Machine.execAdd_A_A s
  -- 41_alu8 R149
  | .add_A_atHL => Sys2Proof.Machine.execAdd_A_atHL s
  -- 41_alu8 R150
  | .add_A_d8 n => Sys2Proof.Machine.execAdd_A_d8 n s
  -- 41_alu8 R151
  | .adc_A_B => Sys2Proof.Machine.execAdc_A_B s
  | .adc_A_C => Sys2Proof.Machine.execAdc_A_C s
  | .adc_A_D => Sys2Proof.Machine.execAdc_A_D s
  | .adc_A_E => Sys2Proof.Machine.execAdc_A_E s
  | .adc_A_H => Sys2Proof.Machine.execAdc_A_H s
  | .adc_A_L => Sys2Proof.Machine.execAdc_A_L s
  | .adc_A_A => Sys2Proof.Machine.execAdc_A_A s
  -- 41_alu8 R152
  | .adc_A_atHL => Sys2Proof.Machine.execAdc_A_atHL s
  -- 41_alu8 R153
  | .adc_A_d8 n => Sys2Proof.Machine.execAdc_A_d8 n s
  -- 41_alu8 R154
  | .sub_B => Sys2Proof.Machine.execSub_B s
  | .sub_C => Sys2Proof.Machine.execSub_C s
  | .sub_D => Sys2Proof.Machine.execSub_D s
  | .sub_E => Sys2Proof.Machine.execSub_E s
  | .sub_H => Sys2Proof.Machine.execSub_H s
  | .sub_L => Sys2Proof.Machine.execSub_L s
  | .sub_A => Sys2Proof.Machine.execSub_A s
  -- 41_alu8 R155
  | .sub_atHL => Sys2Proof.Machine.execSub_atHL s
  -- 41_alu8 R156
  | .sub_d8 n => Sys2Proof.Machine.execSub_d8 n s
  -- 41_alu8 R157
  | .sbc_A_B => Sys2Proof.Machine.execSbc_A_B s
  | .sbc_A_C => Sys2Proof.Machine.execSbc_A_C s
  | .sbc_A_D => Sys2Proof.Machine.execSbc_A_D s
  | .sbc_A_E => Sys2Proof.Machine.execSbc_A_E s
  | .sbc_A_H => Sys2Proof.Machine.execSbc_A_H s
  | .sbc_A_L => Sys2Proof.Machine.execSbc_A_L s
  | .sbc_A_A => Sys2Proof.Machine.execSbc_A_A s
  -- 41_alu8 R158
  | .sbc_A_atHL => Sys2Proof.Machine.execSbc_A_atHL s
  -- 41_alu8 R159
  | .sbc_A_d8 n => Sys2Proof.Machine.execSbc_A_d8 n s
  -- 41_alu8 R160
  | .and_B => Sys2Proof.Machine.execAnd_B s
  | .and_C => Sys2Proof.Machine.execAnd_C s
  | .and_D => Sys2Proof.Machine.execAnd_D s
  | .and_E => Sys2Proof.Machine.execAnd_E s
  | .and_H => Sys2Proof.Machine.execAnd_H s
  | .and_L => Sys2Proof.Machine.execAnd_L s
  | .and_A => Sys2Proof.Machine.execAnd_A s
  -- 41_alu8 R161
  | .and_atHL => Sys2Proof.Machine.execAnd_atHL s
  -- 41_alu8 R162
  | .and_d8 n => Sys2Proof.Machine.execAnd_d8 n s
  -- 41_alu8 R163
  | .xor_B => Sys2Proof.Machine.execXor_B s
  | .xor_C => Sys2Proof.Machine.execXor_C s
  | .xor_D => Sys2Proof.Machine.execXor_D s
  | .xor_E => Sys2Proof.Machine.execXor_E s
  | .xor_H => Sys2Proof.Machine.execXor_H s
  | .xor_L => Sys2Proof.Machine.execXor_L s
  | .xor_A => Sys2Proof.Machine.execXor_A s
  -- 41_alu8 R164
  | .xor_atHL => Sys2Proof.Machine.execXor_atHL s
  -- 41_alu8 R165
  | .xor_d8 n => Sys2Proof.Machine.execXor_d8 n s
  -- 41_alu8 R166
  | .or_B => Sys2Proof.Machine.execOr_B s
  | .or_C => Sys2Proof.Machine.execOr_C s
  | .or_D => Sys2Proof.Machine.execOr_D s
  | .or_E => Sys2Proof.Machine.execOr_E s
  | .or_H => Sys2Proof.Machine.execOr_H s
  | .or_L => Sys2Proof.Machine.execOr_L s
  | .or_A => Sys2Proof.Machine.execOr_A s
  -- 41_alu8 R167
  | .or_atHL => Sys2Proof.Machine.execOr_atHL s
  -- 41_alu8 R168
  | .or_d8 n => Sys2Proof.Machine.execOr_d8 n s
  -- 41_alu8 R169
  | .cp_B => Sys2Proof.Machine.execCp_B s
  | .cp_C => Sys2Proof.Machine.execCp_C s
  | .cp_D => Sys2Proof.Machine.execCp_D s
  | .cp_E => Sys2Proof.Machine.execCp_E s
  | .cp_H => Sys2Proof.Machine.execCp_H s
  | .cp_L => Sys2Proof.Machine.execCp_L s
  | .cp_A => Sys2Proof.Machine.execCp_A s
  -- 41_alu8 R170
  | .cp_atHL => Sys2Proof.Machine.execCp_atHL s
  -- 41_alu8 R171
  | .cp_d8 n => Sys2Proof.Machine.execCp_d8 n s
  -- 41_alu8 R172
  | .inc_B => Sys2Proof.Machine.execInc_B s
  | .inc_C => Sys2Proof.Machine.execInc_C s
  | .inc_D => Sys2Proof.Machine.execInc_D s
  | .inc_E => Sys2Proof.Machine.execInc_E s
  | .inc_H => Sys2Proof.Machine.execInc_H s
  | .inc_L => Sys2Proof.Machine.execInc_L s
  | .inc_A => Sys2Proof.Machine.execInc_A s
  -- 41_alu8 R173
  | .inc_atHL => Sys2Proof.Machine.execInc_atHL s
  -- 41_alu8 R174
  | .dec_B => Sys2Proof.Machine.execDec_B s
  | .dec_C => Sys2Proof.Machine.execDec_C s
  | .dec_D => Sys2Proof.Machine.execDec_D s
  | .dec_E => Sys2Proof.Machine.execDec_E s
  | .dec_H => Sys2Proof.Machine.execDec_H s
  | .dec_L => Sys2Proof.Machine.execDec_L s
  | .dec_A => Sys2Proof.Machine.execDec_A s
  -- 41_alu8 R175
  | .dec_atHL => Sys2Proof.Machine.execDec_atHL s
  -- 42_alu16 R182
  | .add_HL_BC => Sys2Proof.Machine.execAdd_HL_BC s
  | .add_HL_DE => Sys2Proof.Machine.execAdd_HL_DE s
  | .add_HL_HL => Sys2Proof.Machine.execAdd_HL_HL s
  | .add_HL_SP => Sys2Proof.Machine.execAdd_HL_SP s
  -- 42_alu16 R183
  | .inc_BC => Sys2Proof.Machine.execInc_BC s
  | .inc_DE => Sys2Proof.Machine.execInc_DE s
  | .inc_HL => Sys2Proof.Machine.execInc_HL s
  | .inc_SP => Sys2Proof.Machine.execInc_SP s
  -- 42_alu16 R184
  | .add_SP_e8 e => Sys2Proof.Machine.execAdd_SP_e8 e s
  -- 42_alu16 R185
  | .dec_BC => Sys2Proof.Machine.execDec_BC s
  | .dec_DE => Sys2Proof.Machine.execDec_DE s
  | .dec_HL => Sys2Proof.Machine.execDec_HL s
  | .dec_SP => Sys2Proof.Machine.execDec_SP s
  -- 45_control R222
  | .jp_a16 nn => Sys2Proof.Machine.execJp_a16 nn s
  -- 45_control R223
  | .jp_NZ_a16 nn => Sys2Proof.Machine.execJp_NZ_a16 nn s
  | .jp_Z_a16 nn => Sys2Proof.Machine.execJp_Z_a16 nn s
  | .jp_NC_a16 nn => Sys2Proof.Machine.execJp_NC_a16 nn s
  | .jp_C_a16 nn => Sys2Proof.Machine.execJp_C_a16 nn s
  -- 45_control R224
  | .jp_HL => Sys2Proof.Machine.execJp_HL s
  -- 45_control R225
  | .jr_e8 e => Sys2Proof.Machine.execJr_e8 e s
  -- 45_control R226
  | .jr_NZ_e8 e => Sys2Proof.Machine.execJr_NZ_e8 e s
  | .jr_Z_e8 e => Sys2Proof.Machine.execJr_Z_e8 e s
  | .jr_NC_e8 e => Sys2Proof.Machine.execJr_NC_e8 e s
  | .jr_C_e8 e => Sys2Proof.Machine.execJr_C_e8 e s
  -- 45_control R227
  | .call_a16 nn => Sys2Proof.Machine.execCall_a16 nn s
  -- 45_control R228
  | .call_NZ_a16 nn => Sys2Proof.Machine.execCall_NZ_a16 nn s
  | .call_Z_a16 nn => Sys2Proof.Machine.execCall_Z_a16 nn s
  | .call_NC_a16 nn => Sys2Proof.Machine.execCall_NC_a16 nn s
  | .call_C_a16 nn => Sys2Proof.Machine.execCall_C_a16 nn s
  -- 45_control R229
  | .ret => Sys2Proof.Machine.execRet s
  -- 45_control R230
  | .ret_NZ => Sys2Proof.Machine.execRet_NZ s
  | .ret_Z => Sys2Proof.Machine.execRet_Z s
  | .ret_NC => Sys2Proof.Machine.execRet_NC s
  | .ret_C => Sys2Proof.Machine.execRet_C s
  -- 45_control R231
  | .rst_00h => Sys2Proof.Machine.execRst_00h s
  | .rst_08h => Sys2Proof.Machine.execRst_08h s
  | .rst_10h => Sys2Proof.Machine.execRst_10h s
  | .rst_18h => Sys2Proof.Machine.execRst_18h s
  | .rst_20h => Sys2Proof.Machine.execRst_20h s
  | .rst_28h => Sys2Proof.Machine.execRst_28h s
  | .rst_30h => Sys2Proof.Machine.execRst_30h s
  | .rst_38h => Sys2Proof.Machine.execRst_38h s
  -- 30_encoding R64
  | .prefix_CB cb => Sys2Proof.Machine.execPrefix_CB cb s
  -- 46_misc R240
  | .swap_B => Sys2Proof.Machine.execSwap_B s
  | .swap_C => Sys2Proof.Machine.execSwap_C s
  | .swap_D => Sys2Proof.Machine.execSwap_D s
  | .swap_E => Sys2Proof.Machine.execSwap_E s
  | .swap_H => Sys2Proof.Machine.execSwap_H s
  | .swap_L => Sys2Proof.Machine.execSwap_L s
  | .swap_A => Sys2Proof.Machine.execSwap_A s
  -- 46_misc R241
  | .daa => Sys2Proof.Machine.execDaa s
  -- 46_misc R242
  | .cpl => Sys2Proof.Machine.execCpl s
  -- 46_misc R243
  | .ccf => Sys2Proof.Machine.execCcf s
  -- 46_misc R244
  | .scf => Sys2Proof.Machine.execScf s
  -- 46_misc R245
  | .swap_atHL => Sys2Proof.Machine.execSwap_atHL s
  -- 46_misc R246
  | .nop => Sys2Proof.Machine.execNop s
  -- 46_misc R247
  | .halt => Sys2Proof.Machine.execHalt s
  -- 46_misc R248
  | .stop => Sys2Proof.Machine.execStop s
  -- 46_misc R249
  | .di => Sys2Proof.Machine.execDi s
  -- 46_misc R250
  | .ei => Sys2Proof.Machine.execEi s
  -- 46_misc R251
  | .reti => Sys2Proof.Machine.execReti s
  -- 46_misc R252
  | .illegal_D3 => Sys2Proof.Machine.execIllegal_D3 s
  | .illegal_DB => Sys2Proof.Machine.execIllegal_DB s
  | .illegal_DD => Sys2Proof.Machine.execIllegal_DD s
  | .illegal_E3 => Sys2Proof.Machine.execIllegal_E3 s
  | .illegal_E4 => Sys2Proof.Machine.execIllegal_E4 s
  | .illegal_EB => Sys2Proof.Machine.execIllegal_EB s
  | .illegal_EC => Sys2Proof.Machine.execIllegal_EC s
  | .illegal_ED => Sys2Proof.Machine.execIllegal_ED s
  | .illegal_F4 => Sys2Proof.Machine.execIllegal_F4 s
  | .illegal_FC => Sys2Proof.Machine.execIllegal_FC s
  | .illegal_FD => Sys2Proof.Machine.execIllegal_FD s
  -- 43_rotate_shift R190
  | .rlca => Sys2Proof.Machine.execRlca s
  -- 43_rotate_shift R191
  | .rrca => Sys2Proof.Machine.execRrca s
  -- 43_rotate_shift R192
  | .rla => Sys2Proof.Machine.execRla s
  -- 43_rotate_shift R193
  | .rra => Sys2Proof.Machine.execRra s
  -- 43_rotate_shift R195
  | .rlc_B => Sys2Proof.Machine.execRlc_B s
  | .rlc_C => Sys2Proof.Machine.execRlc_C s
  | .rlc_D => Sys2Proof.Machine.execRlc_D s
  | .rlc_E => Sys2Proof.Machine.execRlc_E s
  | .rlc_H => Sys2Proof.Machine.execRlc_H s
  | .rlc_L => Sys2Proof.Machine.execRlc_L s
  | .rlc_A => Sys2Proof.Machine.execRlc_A s
  -- 43_rotate_shift R196
  | .rlc_atHL => Sys2Proof.Machine.execRlc_atHL s
  -- 43_rotate_shift R197
  | .rrc_B => Sys2Proof.Machine.execRrc_B s
  | .rrc_C => Sys2Proof.Machine.execRrc_C s
  | .rrc_D => Sys2Proof.Machine.execRrc_D s
  | .rrc_E => Sys2Proof.Machine.execRrc_E s
  | .rrc_H => Sys2Proof.Machine.execRrc_H s
  | .rrc_L => Sys2Proof.Machine.execRrc_L s
  | .rrc_A => Sys2Proof.Machine.execRrc_A s
  -- 43_rotate_shift R198
  | .rrc_atHL => Sys2Proof.Machine.execRrc_atHL s
  -- 43_rotate_shift R199
  | .rl_B => Sys2Proof.Machine.execRl_B s
  | .rl_C => Sys2Proof.Machine.execRl_C s
  | .rl_D => Sys2Proof.Machine.execRl_D s
  | .rl_E => Sys2Proof.Machine.execRl_E s
  | .rl_H => Sys2Proof.Machine.execRl_H s
  | .rl_L => Sys2Proof.Machine.execRl_L s
  | .rl_A => Sys2Proof.Machine.execRl_A s
  -- 43_rotate_shift R200
  | .rl_atHL => Sys2Proof.Machine.execRl_atHL s
  -- 43_rotate_shift R201
  | .rr_B => Sys2Proof.Machine.execRr_B s
  | .rr_C => Sys2Proof.Machine.execRr_C s
  | .rr_D => Sys2Proof.Machine.execRr_D s
  | .rr_E => Sys2Proof.Machine.execRr_E s
  | .rr_H => Sys2Proof.Machine.execRr_H s
  | .rr_L => Sys2Proof.Machine.execRr_L s
  | .rr_A => Sys2Proof.Machine.execRr_A s
  -- 43_rotate_shift R202
  | .rr_atHL => Sys2Proof.Machine.execRr_atHL s
  -- 43_rotate_shift R203
  | .sla_B => Sys2Proof.Machine.execSla_B s
  | .sla_C => Sys2Proof.Machine.execSla_C s
  | .sla_D => Sys2Proof.Machine.execSla_D s
  | .sla_E => Sys2Proof.Machine.execSla_E s
  | .sla_H => Sys2Proof.Machine.execSla_H s
  | .sla_L => Sys2Proof.Machine.execSla_L s
  | .sla_A => Sys2Proof.Machine.execSla_A s
  -- 43_rotate_shift R204
  | .sla_atHL => Sys2Proof.Machine.execSla_atHL s
  -- 43_rotate_shift R205
  | .sra_B => Sys2Proof.Machine.execSra_B s
  | .sra_C => Sys2Proof.Machine.execSra_C s
  | .sra_D => Sys2Proof.Machine.execSra_D s
  | .sra_E => Sys2Proof.Machine.execSra_E s
  | .sra_H => Sys2Proof.Machine.execSra_H s
  | .sra_L => Sys2Proof.Machine.execSra_L s
  | .sra_A => Sys2Proof.Machine.execSra_A s
  -- 43_rotate_shift R206
  | .sra_atHL => Sys2Proof.Machine.execSra_atHL s
  -- 43_rotate_shift R207
  | .srl_B => Sys2Proof.Machine.execSrl_B s
  | .srl_C => Sys2Proof.Machine.execSrl_C s
  | .srl_D => Sys2Proof.Machine.execSrl_D s
  | .srl_E => Sys2Proof.Machine.execSrl_E s
  | .srl_H => Sys2Proof.Machine.execSrl_H s
  | .srl_L => Sys2Proof.Machine.execSrl_L s
  | .srl_A => Sys2Proof.Machine.execSrl_A s
  -- 43_rotate_shift R208
  | .srl_atHL => Sys2Proof.Machine.execSrl_atHL s
  -- 44_bit R211
  | .bit_0_B => Sys2Proof.Machine.execBit_0_B s
  | .bit_0_C => Sys2Proof.Machine.execBit_0_C s
  | .bit_0_D => Sys2Proof.Machine.execBit_0_D s
  | .bit_0_E => Sys2Proof.Machine.execBit_0_E s
  | .bit_0_H => Sys2Proof.Machine.execBit_0_H s
  | .bit_0_L => Sys2Proof.Machine.execBit_0_L s
  | .bit_0_A => Sys2Proof.Machine.execBit_0_A s
  | .bit_1_B => Sys2Proof.Machine.execBit_1_B s
  | .bit_1_C => Sys2Proof.Machine.execBit_1_C s
  | .bit_1_D => Sys2Proof.Machine.execBit_1_D s
  | .bit_1_E => Sys2Proof.Machine.execBit_1_E s
  | .bit_1_H => Sys2Proof.Machine.execBit_1_H s
  | .bit_1_L => Sys2Proof.Machine.execBit_1_L s
  | .bit_1_A => Sys2Proof.Machine.execBit_1_A s
  | .bit_2_B => Sys2Proof.Machine.execBit_2_B s
  | .bit_2_C => Sys2Proof.Machine.execBit_2_C s
  | .bit_2_D => Sys2Proof.Machine.execBit_2_D s
  | .bit_2_E => Sys2Proof.Machine.execBit_2_E s
  | .bit_2_H => Sys2Proof.Machine.execBit_2_H s
  | .bit_2_L => Sys2Proof.Machine.execBit_2_L s
  | .bit_2_A => Sys2Proof.Machine.execBit_2_A s
  | .bit_3_B => Sys2Proof.Machine.execBit_3_B s
  | .bit_3_C => Sys2Proof.Machine.execBit_3_C s
  | .bit_3_D => Sys2Proof.Machine.execBit_3_D s
  | .bit_3_E => Sys2Proof.Machine.execBit_3_E s
  | .bit_3_H => Sys2Proof.Machine.execBit_3_H s
  | .bit_3_L => Sys2Proof.Machine.execBit_3_L s
  | .bit_3_A => Sys2Proof.Machine.execBit_3_A s
  | .bit_4_B => Sys2Proof.Machine.execBit_4_B s
  | .bit_4_C => Sys2Proof.Machine.execBit_4_C s
  | .bit_4_D => Sys2Proof.Machine.execBit_4_D s
  | .bit_4_E => Sys2Proof.Machine.execBit_4_E s
  | .bit_4_H => Sys2Proof.Machine.execBit_4_H s
  | .bit_4_L => Sys2Proof.Machine.execBit_4_L s
  | .bit_4_A => Sys2Proof.Machine.execBit_4_A s
  | .bit_5_B => Sys2Proof.Machine.execBit_5_B s
  | .bit_5_C => Sys2Proof.Machine.execBit_5_C s
  | .bit_5_D => Sys2Proof.Machine.execBit_5_D s
  | .bit_5_E => Sys2Proof.Machine.execBit_5_E s
  | .bit_5_H => Sys2Proof.Machine.execBit_5_H s
  | .bit_5_L => Sys2Proof.Machine.execBit_5_L s
  | .bit_5_A => Sys2Proof.Machine.execBit_5_A s
  | .bit_6_B => Sys2Proof.Machine.execBit_6_B s
  | .bit_6_C => Sys2Proof.Machine.execBit_6_C s
  | .bit_6_D => Sys2Proof.Machine.execBit_6_D s
  | .bit_6_E => Sys2Proof.Machine.execBit_6_E s
  | .bit_6_H => Sys2Proof.Machine.execBit_6_H s
  | .bit_6_L => Sys2Proof.Machine.execBit_6_L s
  | .bit_6_A => Sys2Proof.Machine.execBit_6_A s
  | .bit_7_B => Sys2Proof.Machine.execBit_7_B s
  | .bit_7_C => Sys2Proof.Machine.execBit_7_C s
  | .bit_7_D => Sys2Proof.Machine.execBit_7_D s
  | .bit_7_E => Sys2Proof.Machine.execBit_7_E s
  | .bit_7_H => Sys2Proof.Machine.execBit_7_H s
  | .bit_7_L => Sys2Proof.Machine.execBit_7_L s
  | .bit_7_A => Sys2Proof.Machine.execBit_7_A s
  -- 44_bit R212
  | .bit_0_atHL => Sys2Proof.Machine.execBit_0_atHL s
  | .bit_1_atHL => Sys2Proof.Machine.execBit_1_atHL s
  | .bit_2_atHL => Sys2Proof.Machine.execBit_2_atHL s
  | .bit_3_atHL => Sys2Proof.Machine.execBit_3_atHL s
  | .bit_4_atHL => Sys2Proof.Machine.execBit_4_atHL s
  | .bit_5_atHL => Sys2Proof.Machine.execBit_5_atHL s
  | .bit_6_atHL => Sys2Proof.Machine.execBit_6_atHL s
  | .bit_7_atHL => Sys2Proof.Machine.execBit_7_atHL s
  -- 44_bit R213
  | .res_0_B => Sys2Proof.Machine.execRes_0_B s
  | .res_0_C => Sys2Proof.Machine.execRes_0_C s
  | .res_0_D => Sys2Proof.Machine.execRes_0_D s
  | .res_0_E => Sys2Proof.Machine.execRes_0_E s
  | .res_0_H => Sys2Proof.Machine.execRes_0_H s
  | .res_0_L => Sys2Proof.Machine.execRes_0_L s
  | .res_0_A => Sys2Proof.Machine.execRes_0_A s
  | .res_1_B => Sys2Proof.Machine.execRes_1_B s
  | .res_1_C => Sys2Proof.Machine.execRes_1_C s
  | .res_1_D => Sys2Proof.Machine.execRes_1_D s
  | .res_1_E => Sys2Proof.Machine.execRes_1_E s
  | .res_1_H => Sys2Proof.Machine.execRes_1_H s
  | .res_1_L => Sys2Proof.Machine.execRes_1_L s
  | .res_1_A => Sys2Proof.Machine.execRes_1_A s
  | .res_2_B => Sys2Proof.Machine.execRes_2_B s
  | .res_2_C => Sys2Proof.Machine.execRes_2_C s
  | .res_2_D => Sys2Proof.Machine.execRes_2_D s
  | .res_2_E => Sys2Proof.Machine.execRes_2_E s
  | .res_2_H => Sys2Proof.Machine.execRes_2_H s
  | .res_2_L => Sys2Proof.Machine.execRes_2_L s
  | .res_2_A => Sys2Proof.Machine.execRes_2_A s
  | .res_3_B => Sys2Proof.Machine.execRes_3_B s
  | .res_3_C => Sys2Proof.Machine.execRes_3_C s
  | .res_3_D => Sys2Proof.Machine.execRes_3_D s
  | .res_3_E => Sys2Proof.Machine.execRes_3_E s
  | .res_3_H => Sys2Proof.Machine.execRes_3_H s
  | .res_3_L => Sys2Proof.Machine.execRes_3_L s
  | .res_3_A => Sys2Proof.Machine.execRes_3_A s
  | .res_4_B => Sys2Proof.Machine.execRes_4_B s
  | .res_4_C => Sys2Proof.Machine.execRes_4_C s
  | .res_4_D => Sys2Proof.Machine.execRes_4_D s
  | .res_4_E => Sys2Proof.Machine.execRes_4_E s
  | .res_4_H => Sys2Proof.Machine.execRes_4_H s
  | .res_4_L => Sys2Proof.Machine.execRes_4_L s
  | .res_4_A => Sys2Proof.Machine.execRes_4_A s
  | .res_5_B => Sys2Proof.Machine.execRes_5_B s
  | .res_5_C => Sys2Proof.Machine.execRes_5_C s
  | .res_5_D => Sys2Proof.Machine.execRes_5_D s
  | .res_5_E => Sys2Proof.Machine.execRes_5_E s
  | .res_5_H => Sys2Proof.Machine.execRes_5_H s
  | .res_5_L => Sys2Proof.Machine.execRes_5_L s
  | .res_5_A => Sys2Proof.Machine.execRes_5_A s
  | .res_6_B => Sys2Proof.Machine.execRes_6_B s
  | .res_6_C => Sys2Proof.Machine.execRes_6_C s
  | .res_6_D => Sys2Proof.Machine.execRes_6_D s
  | .res_6_E => Sys2Proof.Machine.execRes_6_E s
  | .res_6_H => Sys2Proof.Machine.execRes_6_H s
  | .res_6_L => Sys2Proof.Machine.execRes_6_L s
  | .res_6_A => Sys2Proof.Machine.execRes_6_A s
  | .res_7_B => Sys2Proof.Machine.execRes_7_B s
  | .res_7_C => Sys2Proof.Machine.execRes_7_C s
  | .res_7_D => Sys2Proof.Machine.execRes_7_D s
  | .res_7_E => Sys2Proof.Machine.execRes_7_E s
  | .res_7_H => Sys2Proof.Machine.execRes_7_H s
  | .res_7_L => Sys2Proof.Machine.execRes_7_L s
  | .res_7_A => Sys2Proof.Machine.execRes_7_A s
  -- 44_bit R214
  | .res_0_atHL => Sys2Proof.Machine.execRes_0_atHL s
  | .res_1_atHL => Sys2Proof.Machine.execRes_1_atHL s
  | .res_2_atHL => Sys2Proof.Machine.execRes_2_atHL s
  | .res_3_atHL => Sys2Proof.Machine.execRes_3_atHL s
  | .res_4_atHL => Sys2Proof.Machine.execRes_4_atHL s
  | .res_5_atHL => Sys2Proof.Machine.execRes_5_atHL s
  | .res_6_atHL => Sys2Proof.Machine.execRes_6_atHL s
  | .res_7_atHL => Sys2Proof.Machine.execRes_7_atHL s
  -- 44_bit R215
  | .set_0_B => Sys2Proof.Machine.execSet_0_B s
  | .set_0_C => Sys2Proof.Machine.execSet_0_C s
  | .set_0_D => Sys2Proof.Machine.execSet_0_D s
  | .set_0_E => Sys2Proof.Machine.execSet_0_E s
  | .set_0_H => Sys2Proof.Machine.execSet_0_H s
  | .set_0_L => Sys2Proof.Machine.execSet_0_L s
  | .set_0_A => Sys2Proof.Machine.execSet_0_A s
  | .set_1_B => Sys2Proof.Machine.execSet_1_B s
  | .set_1_C => Sys2Proof.Machine.execSet_1_C s
  | .set_1_D => Sys2Proof.Machine.execSet_1_D s
  | .set_1_E => Sys2Proof.Machine.execSet_1_E s
  | .set_1_H => Sys2Proof.Machine.execSet_1_H s
  | .set_1_L => Sys2Proof.Machine.execSet_1_L s
  | .set_1_A => Sys2Proof.Machine.execSet_1_A s
  | .set_2_B => Sys2Proof.Machine.execSet_2_B s
  | .set_2_C => Sys2Proof.Machine.execSet_2_C s
  | .set_2_D => Sys2Proof.Machine.execSet_2_D s
  | .set_2_E => Sys2Proof.Machine.execSet_2_E s
  | .set_2_H => Sys2Proof.Machine.execSet_2_H s
  | .set_2_L => Sys2Proof.Machine.execSet_2_L s
  | .set_2_A => Sys2Proof.Machine.execSet_2_A s
  | .set_3_B => Sys2Proof.Machine.execSet_3_B s
  | .set_3_C => Sys2Proof.Machine.execSet_3_C s
  | .set_3_D => Sys2Proof.Machine.execSet_3_D s
  | .set_3_E => Sys2Proof.Machine.execSet_3_E s
  | .set_3_H => Sys2Proof.Machine.execSet_3_H s
  | .set_3_L => Sys2Proof.Machine.execSet_3_L s
  | .set_3_A => Sys2Proof.Machine.execSet_3_A s
  | .set_4_B => Sys2Proof.Machine.execSet_4_B s
  | .set_4_C => Sys2Proof.Machine.execSet_4_C s
  | .set_4_D => Sys2Proof.Machine.execSet_4_D s
  | .set_4_E => Sys2Proof.Machine.execSet_4_E s
  | .set_4_H => Sys2Proof.Machine.execSet_4_H s
  | .set_4_L => Sys2Proof.Machine.execSet_4_L s
  | .set_4_A => Sys2Proof.Machine.execSet_4_A s
  | .set_5_B => Sys2Proof.Machine.execSet_5_B s
  | .set_5_C => Sys2Proof.Machine.execSet_5_C s
  | .set_5_D => Sys2Proof.Machine.execSet_5_D s
  | .set_5_E => Sys2Proof.Machine.execSet_5_E s
  | .set_5_H => Sys2Proof.Machine.execSet_5_H s
  | .set_5_L => Sys2Proof.Machine.execSet_5_L s
  | .set_5_A => Sys2Proof.Machine.execSet_5_A s
  | .set_6_B => Sys2Proof.Machine.execSet_6_B s
  | .set_6_C => Sys2Proof.Machine.execSet_6_C s
  | .set_6_D => Sys2Proof.Machine.execSet_6_D s
  | .set_6_E => Sys2Proof.Machine.execSet_6_E s
  | .set_6_H => Sys2Proof.Machine.execSet_6_H s
  | .set_6_L => Sys2Proof.Machine.execSet_6_L s
  | .set_6_A => Sys2Proof.Machine.execSet_6_A s
  | .set_7_B => Sys2Proof.Machine.execSet_7_B s
  | .set_7_C => Sys2Proof.Machine.execSet_7_C s
  | .set_7_D => Sys2Proof.Machine.execSet_7_D s
  | .set_7_E => Sys2Proof.Machine.execSet_7_E s
  | .set_7_H => Sys2Proof.Machine.execSet_7_H s
  | .set_7_L => Sys2Proof.Machine.execSet_7_L s
  | .set_7_A => Sys2Proof.Machine.execSet_7_A s
  -- 44_bit R216
  | .set_0_atHL => Sys2Proof.Machine.execSet_0_atHL s
  | .set_1_atHL => Sys2Proof.Machine.execSet_1_atHL s
  | .set_2_atHL => Sys2Proof.Machine.execSet_2_atHL s
  | .set_3_atHL => Sys2Proof.Machine.execSet_3_atHL s
  | .set_4_atHL => Sys2Proof.Machine.execSet_4_atHL s
  | .set_5_atHL => Sys2Proof.Machine.execSet_5_atHL s
  | .set_6_atHL => Sys2Proof.Machine.execSet_6_atHL s
  | .set_7_atHL => Sys2Proof.Machine.execSet_7_atHL s

end Sys2Proof.Machine
end

