-- ==== Sys2Proof/Machine/Fetch.lean ====
section
/-! DEFINITION. Instruction fetch (spec/30_encoding.md R60-R68): the bytes of the next instruction are read through the
same port as data (spec/20_memory.md R40, R53), one read a byte in increasing address order (R47), and PC is advanced past
them before the instruction runs (R62). Also the state a step that
stops leaves, and the placing of an instruction where the next step fetches it. -/

namespace Sys2Proof.Machine

/-- The bytes after the opcode `op`, which is already read: their values (0 where the instruction has none), and the
state after their reads at PC+1 and PC+2, modulo 2^16 (R63, R68). -/
def fetchOperands (op : Byte) (s : State) : Byte × Byte × State :=
  match operandBytes op with
  | 0 => (0, 0, s)
  | 1 => (s.portValue (s.PC + 1), 0, s.afterRead (s.PC + 1))
  | _ =>
    let s1 := s.afterRead (s.PC + 1)
    (s.portValue (s.PC + 1), s1.portValue (s1.PC + 2), s1.afterRead (s1.PC + 2))

/-- Fetch and decode: the instruction, and the state in which it runs, PC at Next-PC (R60, R62). A fault or a refusal
raised by the opcode reads no byte after it (R79, R248): such a row has no operand bytes. -/
def fetch (s : State) : Instr × State :=
  let op := s.portValue s.PC
  let (b1, b2, s2) := fetchOperands op (s.afterRead s.PC)
  (decodeInsn op b1 b2, { s2 with PC := s.PC + 1 + BitVec.ofNat 16 (operandBytes op) })

/-- No port access has been made yet in this transaction. -/
def State.beginStep (s : State) : State := { s with bus := [] }

/-- The state of a step once it has read its opcode at PC, the one access of a step that then stops (R60): register
file, PC and memory are those of the boundary, and the read is on the bus and, at 0xFF00-0xFFFF under ORACLE, is an
event that has used up its draw (spec/20_memory.md R41, R48). -/
def State.opcodeRead (s : State) : State := s.beginStep.afterRead s.PC

/-- The state of a run that has ended, whatever fault or refusal is answered of it. -/
def State.settleEnded (s : State) (r : Result) : State :=
  match r with
  | .next t => t
  | .fault _ => s
  | .refused _ => s

/-- The state in which the answer `r` of a step leaves the core that stood at the boundary `s`. A step stops at its opcode
only: no register, flag, memory byte or PC is written (spec/60_exceptions.md R260, R262, R263), the opcode's read has been
made and the outcome is marked (log entry 5). Of a run that has ended nothing changes (R260; log entry 4). A bit-index
fault is no step's answer (R261): the handlers that raise it have `State.settleBit`. -/
def State.settle (s : State) (r : Result) : State :=
  match s.outcome with
  | .running => s.opcodeRead.settleAt r
  | _ => s.settleEnded r

/-- The end of a run: PC is at `STOP_ADDR` at a boundary, nothing is fetched (R60, spec/70_reset_and_hazards.md R287). -/
def State.markDone (s : State) : State := { s with outcome := .done }

/-- `bytes` placed at PC, and all else the next step needs to fetch them and run their instruction: the run is
`running`, no STOP_ADDR stands at PC, and no byte of them is a draw of `IO_READS = ORACLE` (log entry 6). -/
def State.withFetchBytes (s : State) (bytes : List Byte) : State :=
  { s with
    mem := Memory.load s.mem s.PC bytes
    outcome := .running
    launch :=
      { s.launch with
        stopAddr := if s.launch.stopAddr = some s.PC then none else s.launch.stopAddr
        ioReads := if s.ioAt s.PC || s.ioAt (s.PC + 1) || s.ioAt (s.PC + 2) then .RAM else s.launch.ioReads } }

end Sys2Proof.Machine
end

