-- ==== Sys2Proof/Machine/Step.lean ====
section
/-! DEFINITION. One step of the core (spec/30_encoding.md R60), in the order of spec/60_exceptions.md R264. -/

namespace Sys2Proof.Machine

/-- From an instruction boundary with outcome `running`: at STOP_ADDR the run is done and nothing is fetched, and
otherwise one instruction is fetched and runs. A run that has ended takes no further step: it stays in its fault or its
refusal (spec/60_exceptions.md R260, R262), and a step asked of a done run is refused (log entry 4). -/
def step (s : State) : Host.Outcome State Fault Refusal :=
  match s.outcome with
  | .running =>
    if s.launch.stopAddr = some s.PC then .next s.beginStep.markDone
    else exec (fetch s.beginStep).1 (fetch s.beginStep).2
  | .done => .refused .runDone
  | .fault r => .fault r
  | .refused r => .refused r

/-- `s` with the table word `w` of `nbits` bits, and zeros above it, where step fetches its next instruction. -/
def State.withFetchWord (s : State) (nbits w : Nat) : State :=
  s.withFetchBytes (tableBytes nbits (w % 2 ^ nbits))

end Sys2Proof.Machine
end

