-- ==== Sys2Proof/Safety.lean ====
section
/-! DEFINITION. The vocabulary of claims about the machine: the invariant every step keeps, what a transaction may change,
and what a good end of a run is. -/

namespace Sys2Proof.Machine

/-! ## Accesses -/

def Access.addr : Access → Addr
  | .read a _ => a
  | .write a _ => a

def Access.isRead : Access → Bool
  | .read _ _ => true
  | .write _ _ => false

/-- The byte at `a` after the accesses, `v` being the byte before them: the last write there decides
(spec/20_memory.md R41). -/
def lastWritten : List Access → Addr → Byte → Byte
  | [], _, v => v
  | .read _ _ :: l, a, v => lastWritten l a v
  | .write b w :: l, a, v => lastWritten l a (if b = a then w else v)

/-! ## The invariant -/

/-- Memory is in its canonical form, F's low nibble is zero (spec/10_state.md R23), every IO event is an access of
0xFF00-0xFFFF, each IO read has used one draw, and under `IO_READS = RAM` there are none (spec/00_scope.md R6). -/
abbrev State.Inv (s : State) : Prop :=
  Memory.wf s.mem = true ∧ s.F &&& 0x0F = 0 ∧
    (∀ e ∈ s.ioEvents, ioBase.toNat ≤ e.addr.toNat) ∧
    s.draws = (s.ioEvents.filter Access.isRead).length ∧
    (s.launch.ioReads = .RAM → s.ioEvents = [])

/-! ## Frames -/

/-- The register file's name of an r field's register. -/
def regName : Reg8 → RegName
  | .A => .A
  | .B => .B
  | .C => .C
  | .D => .D
  | .E => .E
  | .H => .H
  | .L => .L

/-- The registers an rr field's pair is made of. -/
def pairParts : Reg16 → List RegName
  | .BC => [.B, .C]
  | .DE => [.D, .E]
  | .HL => [.H, .L]
  | .SP => [.SP]

/-- The registers a qq field's pair is made of. -/
def stackParts : StackReg → List RegName
  | .BC => [.B, .C]
  | .DE => [.D, .E]
  | .HL => [.H, .L]
  | .AF => [.A, .F]

/-- From `s` to `t` the machine made exactly the port accesses `acc`, in that order, and changed no register outside
`regs`: every other register holds its value, every byte of memory is what the last write of `acc` there left, or else
what it was, the IO events and draws are those of `acc`, and the parameters and the outcome stand. The bus record is
log entry 7, the count of draws log entry 3. -/
structure Frame (regs : List RegName) (acc : List Access) (s t : State) : Prop where
  regs_kept : ∀ r, r ∉ regs → t.value r = s.value r
  memory : ∀ a, t.peek a = lastWritten acc a (s.peek a)
  bus : t.bus = s.bus ++ acc
  events : t.ioEvents = s.ioEvents ++ acc.filter (fun x => s.ioAt x.addr)
  draws : t.draws = s.draws + (acc.filter (fun x => x.isRead && s.ioAt x.addr)).length
  launch : t.launch = s.launch
  outcome : t.outcome = s.outcome

/-- `t` is `s` stopped with the outcome `o` after the accesses `acc`: nothing of `s` is written but the records
(spec/60_exceptions.md R260, R262), and those have grown by exactly `acc` (spec/20_memory.md R41, R48; that a stop leaves
them grown is log entries 5 and 18). -/
structure StopsAfter (acc : List Access) (o : RunOutcome) (s t : State) : Prop where
  outcome : t.outcome = o
  unwritten : { t with outcome := s.outcome, bus := s.bus, ioEvents := s.ioEvents, draws := s.draws } = s
  accesses : Frame [] acc s { t with outcome := s.outcome }

/-- `t` is the boundary state `s` stopped at its opcode byte `op` with the outcome `o`: the step's one access is the
opcode's read (spec/30_encoding.md R60). -/
abbrev StopsAtOpcode (op : Byte) (o : RunOutcome) (s t : State) : Prop := StopsAfter [.read s.PC op] o s.beginStep t

/-- In state `s` the instruction `i` completes, and the next state has `post`. -/
def Completes (i : Instr) (s : State) (post : State → Prop) : Prop := ∃ t, exec i s = .next t ∧ post t

/-! ## The field codes of the encodings (spec/30_encoding.md R70-R76) -/

def rCode : Reg8 → Byte
  | .B => 0 | .C => 1 | .D => 2 | .E => 3 | .H => 4 | .L => 5 | .A => 7

def rrCode : Reg16 → Byte
  | .BC => 0 | .DE => 1 | .HL => 2 | .SP => 3

def qqCode : StackReg → Byte
  | .BC => 0 | .DE => 1 | .HL => 2 | .AF => 3

def ccCode : Cond → Byte
  | .NZ => 0 | .Z => 1 | .NC => 2 | .C => 3

def aluCode : AluOp → Byte
  | .ADD => 0 | .ADC => 1 | .SUB => 2 | .SBC => 3 | .AND => 4 | .XOR => 5 | .OR => 6 | .CP => 7

def rotCode : RotOp → Byte
  | .RLC => 0 | .RRC => 1 | .RL => 2 | .RR => 3 | .SLA => 4 | .SRA => 5 | .SWAP => 6 | .SRL => 7

/-! ## What the ALU statements say -/

/-- A takes `A + b + cin` modulo 256, F its zero test and the carries out of bits 3 and 7, N = 0
(spec/41_alu8.md R140). -/
def AddsToA (cin : Bool) (b : Byte) (acc : List Access) (s t : State) : Prop :=
  t.A.toNat = (s.A.toNat + b.toNat + cin.toNat) % 256 ∧
    t.F = flagByte (t.A == 0) false
      (decide (s.A.toNat % 16 + b.toNat % 16 + cin.toNat ≥ 0x10)) (decide (s.A.toNat + b.toNat + cin.toNat ≥ 0x100)) ∧
    Frame [.A, .F] acc s t

/-- A takes `A - b - cin` modulo 256, F its zero test and the borrows, N = 1 (R141). -/
def SubtractsFromA (cin : Bool) (b : Byte) (acc : List Access) (s t : State) : Prop :=
  (t.A.toNat : Int) = ((s.A.toNat : Int) - b.toNat - cin.toNat) % 256 ∧
    t.F = flagByte (t.A == 0) true
      (decide (s.A.toNat % 16 < b.toNat % 16 + cin.toNat)) (decide (s.A.toNat < b.toNat + cin.toNat)) ∧
    Frame [.A, .F] acc s t

/-- A keeps its value, F takes the flags of `A - b` (R169). -/
def ComparesA (b : Byte) (acc : List Access) (s t : State) : Prop :=
  t.F = flagByte (s.A == b) true (decide (s.A.toNat % 16 < b.toNat % 16)) (decide (s.A.toNat < b.toNat)) ∧
    Frame [.F] acc s t

/-- A takes `f A b`, F its zero test, N = C = 0 and H = `h` (R143, R144). -/
def LogicOnA (f : Byte → Byte → Byte) (h : Bool) (b : Byte) (acc : List Access) (s t : State) : Prop :=
  t.A = f s.A b ∧ t.F = flagByte (f s.A b == 0) false h false ∧ Frame [.A, .F] acc s t

/-- The three operand forms of an ALU operation (register, byte at HL, immediate) with their encodings (R74, R77)
complete in every state with `post b acc`, for the operand `b` and the accesses `acc` of the form. -/
def AluForms (op : AluOp) (post : Byte → List Access → State → State → Prop) : Prop :=
  ∀ s,
    (∀ r, encode (Rows.aluReg op r) = [0x80 + 8 * aluCode op + rCode r] ∧
      Completes (Rows.aluReg op r) s (post (s.reg r) [] s)) ∧
    (encode (Rows.aluAtHL op) = [0x86 + 8 * aluCode op] ∧
      Completes (Rows.aluAtHL op) s (post (s.portValue s.HL) [.read s.HL (s.portValue s.HL)] s)) ∧
    ∀ n, encode (Rows.aluImm op n) = [0xC6 + 8 * aluCode op, n] ∧ Completes (Rows.aluImm op n) s (post n [] s)

/-! ## What the rotate and bit statements say -/

/-- Bit `i` of the result of a rotate or shift of `v` with incoming carry `cin` (spec/43_rotate_shift.md R194, and
spec/46_misc.md R240 for SWAP). -/
def rotBit (op : RotOp) (v : Byte) (cin : Bool) (i : Nat) : Bool :=
  match op with
  | .RLC => v.getLsbD ((i + 7) % 8)
  | .RRC => v.getLsbD ((i + 1) % 8)
  | .RL => if i = 0 then cin else v.getLsbD (i - 1)
  | .RR => if i = 7 then cin else v.getLsbD (i + 1)
  | .SLA => if i = 0 then false else v.getLsbD (i - 1)
  | .SRA => if i = 7 then v.getLsbD 7 else v.getLsbD (i + 1)
  | .SWAP => v.getLsbD ((i + 4) % 8)
  | .SRL => if i = 7 then false else v.getLsbD (i + 1)

/-- The bit a rotate or shift of `v` moves into C: bit 7 to the left, bit 0 to the right, none for SWAP. -/
def rotCarry (op : RotOp) (v : Byte) : Bool :=
  match op with
  | .RLC | .RL | .SLA => v.getLsbD 7
  | .RRC | .RR | .SRA | .SRL => v.getLsbD 0
  | .SWAP => false

/-- `w` is `v` rotated or shifted by `op`, bit by bit. -/
def IsRotated (op : RotOp) (v : Byte) (cin : Bool) (w : Byte) : Prop :=
  ∀ i < 8, w.getLsbD i = rotBit op v cin i

/-- `w` is `v` with bit `b` equal to `x` and every other bit kept. -/
def IsWithBit (v : Byte) (b : Nat) (x : Bool) (w : Byte) : Prop :=
  ∀ i < 8, w.getLsbD i = if i = b then x else v.getLsbD i

/-! ## What the control statements say -/

/-- The condition unit, on F as the instruction finds it (spec/45_control.md R220): NZ, Z, NC, C. -/
def taken (cc : Cond) (s : State) : Bool :=
  match cc with
  | .NZ => s.F.getLsbD 7 == false
  | .Z => s.F.getLsbD 7 == true
  | .NC => s.F.getLsbD 4 == false
  | .C => s.F.getLsbD 4 == true

/-- `PC <- target` and nothing else. -/
def JumpsTo (target : Addr) (s t : State) : Prop := t.PC = target ∧ Frame [.PC] [] s t

/-- PC's value pushed, high byte at SP-1 and then low byte at SP-2, and `PC <- target`
(spec/40_loads.md R126, spec/45_control.md R227). -/
def CallsTo (target : Addr) (s t : State) : Prop :=
  t.PC = target ∧ t.SP = s.SP - 2 ∧
    Frame [.SP, .PC] [.write (s.SP - 1) (hiByte s.PC), .write (s.SP - 2) (loByte s.PC)] s t

/-- The bytes a pop finds in `s`: low at SP, then high at SP+1 (R127). -/
def popLow (s : State) : Byte := s.portValue s.SP
def popHigh (s : State) : Byte := (s.afterRead s.SP).portValue (s.SP + 1)
def popReads (s : State) : List Access := [.read s.SP (popLow s), .read (s.SP + 1) (popHigh s)]

/-- `PC <- StackPop()` (R229). -/
def Returns (s t : State) : Prop :=
  t.PC.toNat = 256 * (popHigh s).toNat + (popLow s).toNat ∧ t.SP = s.SP + 2 ∧ Frame [.SP, .PC] (popReads s) s t

/-- The opcodes of JP, JR, CALL, RET and RST (R222-R231). -/
def transferOpcodes : List Byte :=
  [0xC3, 0xC2, 0xCA, 0xD2, 0xDA, 0xE9, 0x18, 0x20, 0x28, 0x30, 0x38, 0xCD, 0xC4, 0xCC, 0xD4, 0xDC, 0xC9, 0xC0, 0xC8, 0xD0,
   0xD8, 0xC7, 0xCF, 0xD7, 0xDF, 0xE7, 0xEF, 0xF7, 0xFF]

/-- The opcodes of the rules that write SP (spec/10_state.md R27): PUSH, POP, CALL, RST, RET, LD SP,d16, LD SP,HL,
INC SP, DEC SP and ADD SP,e8. -/
def stackPointerOpcodes : List Byte :=
  [0xC5, 0xD5, 0xE5, 0xF5, 0xC1, 0xD1, 0xE1, 0xF1, 0xCD, 0xC4, 0xCC, 0xD4, 0xDC, 0xC7, 0xCF, 0xD7, 0xDF, 0xE7, 0xEF, 0xF7,
   0xFF, 0xC9, 0xC0, 0xC8, 0xD0, 0xD8, 0x31, 0xF9, 0x33, 0x3B, 0xE8]

/-- The out-of-scope opcodes STOP, HALT, RETI, DI and EI (spec/60_exceptions.md R262). -/
def outOfScopeOpcodes : List Byte := [0x10, 0x76, 0xD9, 0xF3, 0xFB]

/-- The unassigned opcodes (spec/30_encoding.md R79). -/
def illegalOpcodes : List Byte := [0xD3, 0xDB, 0xDD, 0xE3, 0xE4, 0xEB, 0xEC, 0xED, 0xF4, 0xFC, 0xFD]

/-! ## What the statements about fetch say -/

/-- The port returns the bytes `bs` when read in order from `a` on (R41, R60). -/
def PortHolds : State → Addr → List Byte → Prop
  | _, _, [] => True
  | s, a, b :: bs => s.portValue a = b ∧ PortHolds (s.afterRead a) (a + 1) bs

/-- The state after `n` reads from `a` on. -/
def readsFrom : Nat → State → Addr → State
  | 0, s, _ => s
  | n + 1, s, a => readsFrom n (s.afterRead a) (a + 1)

/-- The accesses of reading the bytes `bs` from `a` on. -/
def readAccesses : Addr → List Byte → List Access
  | _, [] => []
  | a, b :: bs => .read a b :: readAccesses (a + 1) bs

/-! ## The two flag profiles -/

/-- The state with the other parameters kept and `FLAG_PROFILE = p`. -/
def State.withProfile (s : State) (p : FlagProfile) : State :=
  { s with launch := { s.launch with flagProfile := p } }

/-- A result with `f` applied to its next state. -/
def mapNext (f : State → State) : Result → Result
  | .next t => .next (f t)
  | .fault r => .fault r
  | .refused r => .refused r

/-- The opcodes at which the profiles may differ (spec/00_scope.md R5): DAA, ADD SP,e8, LD HL,SP+e8, RLCA, RRCA, RLA
and RRA. -/
def profileOpcodes : List Byte := [0x27, 0xE8, 0xF8, 0x07, 0x0F, 0x17, 0x1F]

/-- A number below 100 as two decimal digits. -/
def bcd (n : Nat) : Byte := BitVec.ofNat 8 (n / 10 * 16 + n % 10)

/-! ## Ends of a run -/

/-- `k` steps from `s` end the run well: the state they reach is `done` (spec/70_reset_and_hazards.md R287). -/
def GoodEnd (s : State) (k : Nat) : Prop := ∃ t, core.run k s = .next t ∧ t.outcome = .done

end Sys2Proof.Machine
end

