-- ==== Sys2Proof/Certificates/Slice0/Obligations.lean ====
section
/-! DEFINITION. The statements for the provers. Each formalises a rule of spec/, named in its docstring; the vocabulary
(Completes, Frame, ...) is Sys2Proof/Safety.lean's. A frame gives the registers that may change, every port access in
order, and from these every byte of memory. -/

open Sys2Proof Sys2Proof.Machine

/-! ## Reset and the register file -/

/-- R280, R281, R32: whatever the parameters and the launch image, the register file holds the power-on values, the
outcome is running, and memory is the image. -/
def Obligations.ResetHoldsSpecValues : Prop :=
  ∀ (p : Launch) (image : List Host.Cell),
    (∀ r ∈ [RegName.A, .F, .B, .C, .D, .E, .H, .L], (State.powerOn p image).value r = 0) ∧
    (∀ n ∈ [PortName.AF, .BC, .DE, .HL], (State.powerOn p image).portGet n = 0) ∧
    (State.powerOn p image).SP = 0xE000 ∧ (State.powerOn p image).PC = 0x0100 ∧
    (State.powerOn p image).outcome = .running ∧
    ∀ a, (State.powerOn p image).peek a = Memory.get image a.toNat

/-- Reset meets the invariant, over any parameters and any canonical launch image. -/
def Obligations.ResetMeetsInvariant : Prop :=
  State.reset.Inv ∧ ∀ (p : Launch) (image : List Host.Cell), Memory.wf image = true → (State.powerOn p image).Inv

/-- R21: a pair reads as `(high << 8) | low`, and a write of it writes both bytes. That a write of AF drops bits 3:0 is the
spec's own decision (R23, D20). -/
def Obligations.PairViewsAreTheBytes : Prop :=
  ∀ (s : State) (v : Addr),
    (s.AF.toNat = 256 * s.A.toNat + s.readF.toNat ∧ s.BC.toNat = 256 * s.B.toNat + s.C.toNat ∧
      s.DE.toNat = 256 * s.D.toNat + s.E.toNat ∧ s.HL.toNat = 256 * s.H.toNat + s.L.toNat) ∧
    ((s.setBC v).B.toNat = v.toNat / 256 ∧ (s.setBC v).C.toNat = v.toNat % 256 ∧ (s.setBC v).BC = v) ∧
    ((s.setDE v).D.toNat = v.toNat / 256 ∧ (s.setDE v).E.toNat = v.toNat % 256 ∧ (s.setDE v).DE = v) ∧
    ((s.setHL v).H.toNat = v.toNat / 256 ∧ (s.setHL v).L.toNat = v.toNat % 256 ∧ (s.setHL v).HL = v) ∧
    ((s.setAF v).A.toNat = v.toNat / 256 ∧ (s.setAF v).F.toNat = v.toNat % 256 / 16 * 16 ∧ (s.setAF v).AF = v &&& 0xFFF0)

/-- R26: a get after a set through the dispatch port gives the value set, and a set of a register or a pair leaves every
other register. F's bits 3:0 are masked on this path too by the spec's own decision (R23, D20). That a byte register takes
bits 7:0 of a value above 0xFF is the model's choice, not R26's (log entry 17, DESIGN CHOICE). -/
def Obligations.DispatchPortSetThenGet : Prop :=
  ∀ (s : State) (v : Addr),
    (∀ r : RegName, (s.portSet (.one r) v).value r =
      match r with
      | .SP => v
      | .PC => v
      | .F => v &&& 0x00F0
      | _ => v &&& 0x00FF) ∧
    (∀ r : RegName, Frame [r] [] s (s.portSet (.one r) v)) ∧
    ((s.portSet .AF v).portGet .AF = v &&& 0xFFF0 ∧ Frame [.A, .F] [] s (s.portSet .AF v)) ∧
    ((s.portSet .BC v).portGet .BC = v ∧ Frame [.B, .C] [] s (s.portSet .BC v)) ∧
    ((s.portSet .DE v).portGet .DE = v ∧ Frame [.D, .E] [] s (s.portSet .DE v)) ∧
    ((s.portSet .HL v).portGet .HL = v ∧ Frame [.H, .L] [] s (s.portSet .HL v))

/-- R24: a write of `flags(z, n, h, c)` reads back as Z in bit 7, N in bit 6, H in bit 5, C in bit 4. R23, with the spec's
own decision D20: any write of F leaves bits 3:0 zero and keeps bits 7:4. -/
def Obligations.FlagBitsOfF : Prop :=
  ∀ (s : State) (z n h c : Bool) (v : Byte),
    ((s.writeF (flagByte z n h c)).F.getLsbD 7 = z ∧ (s.writeF (flagByte z n h c)).F.getLsbD 6 = n ∧
      (s.writeF (flagByte z n h c)).F.getLsbD 5 = h ∧ (s.writeF (flagByte z n h c)).F.getLsbD 4 = c) ∧
    (s.writeF v).F.toNat % 16 = 0 ∧ (s.writeF v).F.toNat / 16 = v.toNat / 16 ∧ s.readF.toNat % 16 = 0

/-! ## Memory and the port -/

/-- R41, R42 (the spec's own decision D6): after a write of `v` at `a` a read of `b` returns `v` if `b = a` and otherwise what
it returned, except that under ORACLE a read of an IO address is a free draw. -/
def Obligations.ReadReturnsLastWrite : Prop :=
  ∀ (s : State) (a b : Addr) (v : Byte),
    (s.writeByte a v).portValue b =
      if s.launch.ioReads = .ORACLE ∧ 0xFF00 ≤ b.toNat then Config.freeByte s.draws
      else if b = a then v else s.portValue b

/-- R6, R41, R48 (the spec's own decision D6; that a draw is counted is log entry 3): an access is an event exactly under
ORACLE at 0xFF00-0xFFFF; there a read is a draw, and the next read takes another. Elsewhere a read changes nothing but the
bus record (log entry 7) and can be repeated. -/
def Obligations.IoReadsAreDrawsAndEvents : Prop :=
  ∀ (s : State) (a : Addr) (v : Byte),
    (s.launch.ioReads = .ORACLE → 0xFF00 ≤ a.toNat →
      s.portValue a = Config.freeByte s.draws ∧ (s.afterRead a).portValue a = Config.freeByte (s.draws + 1) ∧
      (s.afterRead a).ioEvents = s.ioEvents ++ [.read a (s.portValue a)] ∧
      (s.writeByte a v).ioEvents = s.ioEvents ++ [.write a v]) ∧
    (s.launch.ioReads = .RAM ∨ a.toNat < 0xFF00 →
      s.portValue a = s.peek a ∧ (s.afterRead a).portValue a = s.portValue a ∧
      { s.afterRead a with bus := s.bus } = s ∧ (s.writeByte a v).ioEvents = s.ioEvents)

/-- R45, R55: a 16-bit access at `a` is two byte accesses at `a` and `a+1` modulo 2^16, the low byte at `a`. The write's order
is R11's; that the read takes `a` first is the model's, no rule's (log entry 16, DEDUCED). -/
def Obligations.WordAccessesAreLittleEndian : Prop :=
  ∀ (s : State) (a v : Addr),
    (s.portWord a).toNat = 256 * ((s.afterRead a).portValue (a + 1)).toNat + (s.portValue a).toNat ∧
    Frame [] [.read a (s.portValue a), .read (a + 1) ((s.afterRead a).portValue (a + 1))] s (s.afterReadWord a) ∧
    Frame [] [.write a (BitVec.ofNat 8 (v.toNat % 256)), .write (a + 1) (BitVec.ofNat 8 (v.toNat / 256))] s
      (s.writeWord a v)

/-! ## Loads (spec/40_loads.md) -/

/-- R100: LD r,r' copies a register. -/
def Obligations.LoadRegisterFromRegister : Prop :=
  ∀ d r : Reg8, encode (Rows.ldReg d r) = [0x40 + 8 * rCode d + rCode r] ∧
    ∀ s, Completes (Rows.ldReg d r) s fun t => t.reg d = s.reg r ∧ Frame [regName d] [] s t

/-- R101: LD r,d8 loads the immediate. -/
def Obligations.LoadRegisterImmediate : Prop :=
  ∀ (d : Reg8) (n : Byte), encode (Rows.ldImm d n) = [0x06 + 8 * rCode d, n] ∧
    ∀ s, Completes (Rows.ldImm d n) s fun t => t.reg d = n ∧ Frame [regName d] [] s t

/-- R102: LD r,(HL) loads the byte at the address HL had before the write. -/
def Obligations.LoadRegisterFromHL : Prop :=
  ∀ d : Reg8, encode (Rows.ldFromHL d) = [0x46 + 8 * rCode d] ∧
    ∀ s, Completes (Rows.ldFromHL d) s fun t =>
      t.reg d = s.portValue s.HL ∧ Frame [regName d] [.read s.HL (s.portValue s.HL)] s t

/-- R103, R104: LD (HL),r and LD (HL),d8 store one byte at HL. -/
def Obligations.StoreToHL : Prop :=
  (∀ r : Reg8, encode (Rows.ldToHL r) = [0x70 + rCode r] ∧
    ∀ s, Completes (Rows.ldToHL r) s fun t => Frame [] [.write s.HL (s.reg r)] s t) ∧
  (∀ n : Byte, encode (.ld_atHL_d8 n) = [0x36, n] ∧
    ∀ s, Completes (.ld_atHL_d8 n) s fun t => Frame [] [.write s.HL n] s t)

/-- R105, R106, R109, R111, R113: A is loaded from BC, DE, a16, and the IO ports a8 and C at 0xFF00 + n. -/
def Obligations.LoadAFromAddress : Prop :=
  ∀ (s : State) (nn : Addr) (n : Byte),
    let loadsA (i : Instr) (a : Addr) :=
      Completes i s fun t => t.A = s.portValue a ∧ Frame [.A] [.read a (s.portValue a)] s t
    (encode .ld_A_atBC = [0x0A] ∧ loadsA .ld_A_atBC s.BC) ∧
    (encode .ld_A_atDE = [0x1A] ∧ loadsA .ld_A_atDE s.DE) ∧
    (encode (.ld_A_a16 nn) = [0xFA, loByte nn, hiByte nn] ∧ loadsA (.ld_A_a16 nn) nn) ∧
    (encode (.ldh_A_a8 n) = [0xF0, n] ∧ loadsA (.ldh_A_a8 n) (BitVec.ofNat 16 (0xFF00 + n.toNat))) ∧
    (encode .ld_A_atC = [0xF2] ∧ loadsA .ld_A_atC (BitVec.ofNat 16 (0xFF00 + s.C.toNat)))

/-- R107, R108, R110, R112, R114: A is stored at BC, DE, a16, and the IO ports a8 and C at 0xFF00 + n. -/
def Obligations.StoreAToAddress : Prop :=
  ∀ (s : State) (nn : Addr) (n : Byte),
    let storesA (i : Instr) (a : Addr) := Completes i s fun t => Frame [] [.write a s.A] s t
    (encode .ld_atBC_A = [0x02] ∧ storesA .ld_atBC_A s.BC) ∧
    (encode .ld_atDE_A = [0x12] ∧ storesA .ld_atDE_A s.DE) ∧
    (encode (.ld_a16_A nn) = [0xEA, loByte nn, hiByte nn] ∧ storesA (.ld_a16_A nn) nn) ∧
    (encode (.ldh_a8_A n) = [0xE0, n] ∧ storesA (.ldh_a8_A n) (BitVec.ofNat 16 (0xFF00 + n.toNat))) ∧
    (encode .ld_atC_A = [0xE2] ∧ storesA .ld_atC_A (BitVec.ofNat 16 (0xFF00 + s.C.toNat)))

/-- R115, R116, R123: A is loaded through the address HL had at the start, and HL moves by one, modulo 2^16. -/
def Obligations.LoadAAndStepHL : Prop :=
  ∀ s : State,
    (encode .ld_A_atHLinc = [0x2A] ∧ Completes .ld_A_atHLinc s fun t =>
      t.A = s.portValue s.HL ∧ t.HL.toNat = (s.HL.toNat + 1) % 65536 ∧
        Frame [.A, .H, .L] [.read s.HL (s.portValue s.HL)] s t) ∧
    (encode .ld_A_atHLdec = [0x3A] ∧ Completes .ld_A_atHLdec s fun t =>
      t.A = s.portValue s.HL ∧ (t.HL.toNat : Int) = ((s.HL.toNat : Int) - 1) % 65536 ∧
        Frame [.A, .H, .L] [.read s.HL (s.portValue s.HL)] s t)

/-- R117, R118, R123: A is stored through the address HL had at the start, and HL moves by one, modulo 2^16. -/
def Obligations.StoreAAndStepHL : Prop :=
  ∀ s : State,
    (encode .ld_atHLinc_A = [0x22] ∧ Completes .ld_atHLinc_A s fun t =>
      t.HL.toNat = (s.HL.toNat + 1) % 65536 ∧ Frame [.H, .L] [.write s.HL s.A] s t) ∧
    (encode .ld_atHLdec_A = [0x32] ∧ Completes .ld_atHLdec_A s fun t =>
      (t.HL.toNat : Int) = ((s.HL.toNat : Int) - 1) % 65536 ∧ Frame [.H, .L] [.write s.HL s.A] s t)

/-- R119, R121: LD rr,d16 loads a pair or SP, LD SP,HL copies HL. -/
def Obligations.LoadPairImmediateAndSPFromHL : Prop :=
  (∀ (rr : Reg16) (nn : Addr), encode (Rows.ldPair rr nn) = [0x01 + 16 * rrCode rr, loByte nn, hiByte nn] ∧
    ∀ s, Completes (Rows.ldPair rr nn) s fun t => t.pair rr = nn ∧ Frame (pairParts rr) [] s t) ∧
  (encode .ld_SP_HL = [0xF9] ∧ ∀ s, Completes .ld_SP_HL s fun t => t.SP = s.HL ∧ Frame [.SP] [] s t)

/-- R120 (the spec's own decision D4): LD (a16),SP writes SP's low byte at a16 and then its high byte at a16+1, modulo
2^16. -/
def Obligations.StoreSPLittleEndian : Prop :=
  ∀ nn : Addr, encode (.ld_a16_SP nn) = [0x08, loByte nn, hiByte nn] ∧
    ∀ s, Completes (.ld_a16_SP nn) s fun t =>
      Frame [] [.write nn (BitVec.ofNat 8 (s.SP.toNat % 256)), .write (nn + 1) (BitVec.ofNat 8 (s.SP.toNat / 256))] s t

/-- R124, R125: LD HL,SP+e8 adds the signed offset modulo 2^16; F is 0 under DOC. Under SM83 it is `flags(0, 0, h3, c7)`,
which the spec takes from general knowledge (K10), with the carries of its own decision D10. -/
def Obligations.LoadHLFromSPOffset : Prop :=
  ∀ e : Byte, encode (.ld_HL_SPe8 e) = [0xF8, e] ∧
    ∀ s, Completes (.ld_HL_SPe8 e) s fun t =>
      (t.HL.toNat : Int) = ((s.SP.toNat : Int) + e.toInt) % 65536 ∧
      t.F = (match s.launch.flagProfile with
        | .DOC => 0
        | .SM83 => flagByte false false (decide (s.SP.toNat % 16 + e.toNat % 16 ≥ 0x10))
            (decide (s.SP.toNat % 256 + e.toNat ≥ 0x100))) ∧
      Frame [.H, .L, .F] [] s t

/-- R128, R126: PUSH qq writes the high byte at SP-1, then the low byte at SP-2, the new SP. -/
def Obligations.PushPair : Prop :=
  ∀ qq : StackReg, encode (Rows.push qq) = [0xC5 + 16 * qqCode qq] ∧
    ∀ s, Completes (Rows.push qq) s fun t =>
      t.SP = s.SP - 2 ∧
        Frame [.SP] [.write (s.SP - 1) (hiByte (s.stackPair qq)), .write (s.SP - 2) (loByte (s.stackPair qq))] s t

/-- R129, R127: POP qq reads the low byte at SP, then the high byte at SP+1, SP ends at SP+2. POP AF drops bits 3:0 of the
low byte by the spec's own decision D20. -/
def Obligations.PopPair : Prop :=
  ∀ qq : StackReg, encode (Rows.pop qq) = [0xC1 + 16 * qqCode qq] ∧
    ∀ s, Completes (Rows.pop qq) s fun t =>
      t.SP = s.SP + 2 ∧
      (t.stackPair qq).toNat = 256 * (popHigh s).toNat +
        (match qq with
          | .AF => (popLow s).toNat / 16 * 16
          | _ => (popLow s).toNat) ∧
      Frame (.SP :: stackParts qq) (popReads s) s t

/-- The round trip the spec derives in R127: a pop after a push, with no write between them, returns the value pushed and
restores SP, for every value and every SP, when neither stack byte is an IO port read as a draw. -/
def Obligations.PushThenPopRestores : Prop :=
  ∀ (s : State) (v : Addr),
    (s.launch.ioReads = .RAM ∨ ((s.SP - 1).toNat < 0xFF00 ∧ (s.SP - 2).toNat < 0xFF00)) →
      (s.stackPush v).popValue = v ∧ (s.stackPush v).afterPop.SP = s.SP

/-! ## The 8-bit ALU (spec/41_alu8.md) -/

/-- R148-R153: ADD and ADC of a register, of the byte at HL and of an immediate. -/
def Obligations.AddAndAdcToA : Prop :=
  AluForms .ADD (AddsToA false) ∧ AluForms .ADC fun b acc s t => AddsToA s.flagC b acc s t

/-- R154-R159: SUB and SBC of a register, of the byte at HL and of an immediate. -/
def Obligations.SubAndSbcFromA : Prop :=
  AluForms .SUB (SubtractsFromA false) ∧ AluForms .SBC fun b acc s t => SubtractsFromA s.flagC b acc s t

/-- R160-R168: AND, XOR and OR of a register, of the byte at HL and of an immediate. -/
def Obligations.AndXorOrIntoA : Prop :=
  AluForms .AND (LogicOnA (fun a b => a &&& b) true) ∧ AluForms .XOR (LogicOnA (fun a b => a ^^^ b) false) ∧
    AluForms .OR (LogicOnA (fun a b => a ||| b) false)

/-- R169-R171: CP writes the flags of the subtraction and nothing else. -/
def Obligations.CompareKeepsA : Prop := AluForms .CP ComparesA

/-- R172-R175, R145: INC and DEC of a register and of the byte at HL. That C keeps its value is the spec's own decision
D7. -/
def Obligations.IncDecByteKeepCarry : Prop :=
  ∀ s : State,
    (∀ r : Reg8, encode (Rows.incReg r) = [0x04 + 8 * rCode r] ∧ Completes (Rows.incReg r) s fun t =>
      (t.reg r).toNat = ((s.reg r).toNat + 1) % 256 ∧
      t.F = flagByte (t.reg r == 0) false (decide ((s.reg r).toNat % 16 = 0xF)) s.flagC ∧
      Frame [regName r, .F] [] s t) ∧
    (∀ r : Reg8, encode (Rows.decReg r) = [0x05 + 8 * rCode r] ∧ Completes (Rows.decReg r) s fun t =>
      ((t.reg r).toNat : Int) = (((s.reg r).toNat : Int) - 1) % 256 ∧
      t.F = flagByte (t.reg r == 0) true (decide ((s.reg r).toNat % 16 = 0)) s.flagC ∧
      Frame [regName r, .F] [] s t) ∧
    (encode .inc_atHL = [0x34] ∧ Completes .inc_atHL s fun t =>
      ∃ w : Byte, w.toNat = ((s.portValue s.HL).toNat + 1) % 256 ∧
        t.F = flagByte (w == 0) false (decide ((s.portValue s.HL).toNat % 16 = 0xF)) s.flagC ∧
        Frame [.F] [.read s.HL (s.portValue s.HL), .write s.HL w] s t) ∧
    (encode .dec_atHL = [0x35] ∧ Completes .dec_atHL s fun t =>
      ∃ w : Byte, (w.toNat : Int) = (((s.portValue s.HL).toNat : Int) - 1) % 256 ∧
        t.F = flagByte (w == 0) true (decide ((s.portValue s.HL).toNat % 16 = 0)) s.flagC ∧
        Frame [.F] [.read s.HL (s.portValue s.HL), .write s.HL w] s t)

/-- What the spec derives in R142 from R140 and R141: the source's comparison formulas for C and H equal the carries and
borrows when there is no incoming carry; with one, C disagrees exactly when b = 0xFF and H exactly when b[3:0] = 0xF. -/
def Obligations.ComparisonFlagsAgainstCarries : Prop :=
  ∀ (a b : Byte) (cin : Bool),
    let sum := add8 a b cin
    let dif := sub8 a b cin
    (sum.flags.getLsbD 4 = decide (sum.res.toNat < a.toNat) ↔ ¬(cin = true ∧ b = 0xFF)) ∧
    (sum.flags.getLsbD 5 = decide (sum.res.toNat % 16 < a.toNat % 16) ↔ ¬(cin = true ∧ b.toNat % 16 = 0xF)) ∧
    (dif.flags.getLsbD 4 = decide (dif.res.toNat > a.toNat) ↔ ¬(cin = true ∧ b = 0xFF)) ∧
    (dif.flags.getLsbD 5 = decide (dif.res.toNat % 16 > a.toNat % 16) ↔ ¬(cin = true ∧ b.toNat % 16 = 0xF)) ∧
    sum.flags.getLsbD 7 = (sum.res == 0) ∧ sum.flags.getLsbD 6 = false ∧
    dif.flags.getLsbD 7 = (dif.res == 0) ∧ dif.flags.getLsbD 6 = true

/-! ## The 16-bit ALU (spec/42_alu16.md) -/

/-- R182, R180: ADD HL,rr keeps Z and sets H and C from bits 11 and 15. That it clears N is the spec's own decision D9. -/
def Obligations.AddPairToHL : Prop :=
  ∀ rr : Reg16, encode (Rows.addHL rr) = [0x09 + 16 * rrCode rr] ∧
    ∀ s, Completes (Rows.addHL rr) s fun t =>
      t.HL.toNat = (s.HL.toNat + (s.pair rr).toNat) % 65536 ∧
      t.F = flagByte s.flagZ false (decide (s.HL.toNat % 4096 + (s.pair rr).toNat % 4096 ≥ 0x1000))
        (decide (s.HL.toNat + (s.pair rr).toNat ≥ 0x10000)) ∧
      Frame [.H, .L, .F] [] s t

/-- R183, R185, R181: INC rr and DEC rr wrap modulo 2^16 and write no flag. -/
def Obligations.IncDecPairWithoutFlags : Prop :=
  ∀ (rr : Reg16) (s : State),
    (encode (Rows.incPair rr) = [0x03 + 16 * rrCode rr] ∧ Completes (Rows.incPair rr) s fun t =>
      (t.pair rr).toNat = ((s.pair rr).toNat + 1) % 65536 ∧ Frame (pairParts rr) [] s t) ∧
    (encode (Rows.decPair rr) = [0x0B + 16 * rrCode rr] ∧ Completes (Rows.decPair rr) s fun t =>
      ((t.pair rr).toNat : Int) = (((s.pair rr).toNat : Int) - 1) % 65536 ∧ Frame (pairParts rr) [] s t)

/-- R184, R125 (the spec's own decisions D9, D10): ADD SP,e8; under DOC Z is kept and H, C are the carries out of bits 11
and 15 of SP + sext16(e8); under SM83, from general knowledge (K10), Z = 0 and H, C are those of the low-byte addition. -/
def Obligations.AddOffsetToSP : Prop :=
  ∀ e : Byte, encode (.add_SP_e8 e) = [0xE8, e] ∧
    ∀ s, Completes (.add_SP_e8 e) s fun t =>
      (t.SP.toNat : Int) = ((s.SP.toNat : Int) + e.toInt) % 65536 ∧
      t.F = (match s.launch.flagProfile with
        | .DOC => flagByte s.flagZ false (decide (s.SP.toNat % 4096 + (e.signExtend 16).toNat % 4096 ≥ 0x1000))
            (decide (s.SP.toNat + (e.signExtend 16).toNat ≥ 0x10000))
        | .SM83 => flagByte false false (decide (s.SP.toNat % 16 + e.toNat % 16 ≥ 0x10))
            (decide (s.SP.toNat % 256 + e.toNat ≥ 0x100))) ∧
      Frame [.SP, .F] [] s t

/-! ## Rotates, shifts and bits (spec/43_rotate_shift.md, spec/44_bit.md) -/

/-- R190-R193: RLCA, RRCA, RLA, RRA; N = H = 0, C the departing bit, Z the result's under DOC. Z = 0 under SM83 is from
general knowledge (K10). -/
def Obligations.AccumulatorRotates : Prop :=
  ∀ s : State,
    let rotatesA (i : Instr) (op : RotOp) := Completes i s fun t =>
      IsRotated op s.A s.flagC t.A ∧
      t.F = flagByte (match s.launch.flagProfile with
        | .DOC => t.A == 0
        | .SM83 => false) false false (rotCarry op s.A) ∧
      Frame [.A, .F] [] s t
    (encode .rlca = [0x07] ∧ rotatesA .rlca .RLC) ∧ (encode .rrca = [0x0F] ∧ rotatesA .rrca .RRC) ∧
    (encode .rla = [0x17] ∧ rotatesA .rla .RL) ∧ (encode .rra = [0x1F] ∧ rotatesA .rra .RR)

/-- R195, R197, R199, R201, R203, R205, R207, R240: the CB rotates, shifts and SWAP of a register. -/
def Obligations.RotateShiftRegister : Prop :=
  ∀ (op : RotOp) (r : Reg8), encode (Rows.rotReg op r) = [0xCB, 8 * rotCode op + rCode r] ∧
    ∀ s, Completes (Rows.rotReg op r) s fun t =>
      IsRotated op (s.reg r) s.flagC (t.reg r) ∧
      t.F = flagByte (t.reg r == 0) false false (rotCarry op (s.reg r)) ∧ Frame [regName r, .F] [] s t

/-- R196, R198, R200, R202, R204, R206, R208, R245: the same on the byte at HL, one read and then one write. -/
def Obligations.RotateShiftAtHL : Prop :=
  ∀ op : RotOp, encode (Rows.rotAtHL op) = [0xCB, 8 * rotCode op + 6] ∧
    ∀ s, Completes (Rows.rotAtHL op) s fun t =>
      ∃ w : Byte, IsRotated op (s.portValue s.HL) s.flagC w ∧
        t.F = flagByte (w == 0) false false (rotCarry op (s.portValue s.HL)) ∧
        Frame [.F] [.read s.HL (s.portValue s.HL), .write s.HL w] s t

/-- R211, R212: BIT sets Z from the bit's complement, N = 0, H = 1, keeps C, and writes nothing else. -/
def Obligations.BitTestSetsZ : Prop :=
  ∀ (b : Field3) (s : State),
    (∀ r : Reg8, encode (Rows.testReg b r) = [0xCB, 0x40 + 8 * b.toByte + rCode r] ∧
      Completes (Rows.testReg b r) s fun t =>
        t.F = flagByte (!(s.reg r).getLsbD b.toByte.toNat) false true s.flagC ∧ Frame [.F] [] s t) ∧
    (encode (Rows.testAtHL b) = [0xCB, 0x46 + 8 * b.toByte] ∧ Completes (Rows.testAtHL b) s fun t =>
      t.F = flagByte (!(s.portValue s.HL).getLsbD b.toByte.toNat) false true s.flagC ∧
      Frame [.F] [.read s.HL (s.portValue s.HL)] s t)

/-- R213, R215: RES and SET of a register's bit change that bit alone and write no flag. -/
def Obligations.ResetAndSetBitOfRegister : Prop :=
  ∀ (b : Field3) (r : Reg8) (s : State),
    (encode (Rows.resetReg b r) = [0xCB, 0x80 + 8 * b.toByte + rCode r] ∧ Completes (Rows.resetReg b r) s fun t =>
      IsWithBit (s.reg r) b.toByte.toNat false (t.reg r) ∧ Frame [regName r] [] s t) ∧
    (encode (Rows.setReg b r) = [0xCB, 0xC0 + 8 * b.toByte + rCode r] ∧ Completes (Rows.setReg b r) s fun t =>
      IsWithBit (s.reg r) b.toByte.toNat true (t.reg r) ∧ Frame [regName r] [] s t)

/-- R214, R216: RES and SET of a bit of the byte at HL: one read and then one write, no flag. -/
def Obligations.ResetAndSetBitAtHL : Prop :=
  ∀ (b : Field3) (s : State),
    (encode (Rows.resetAtHL b) = [0xCB, 0x86 + 8 * b.toByte] ∧ Completes (Rows.resetAtHL b) s fun t =>
      ∃ w, IsWithBit (s.portValue s.HL) b.toByte.toNat false w ∧
        Frame [] [.read s.HL (s.portValue s.HL), .write s.HL w] s t) ∧
    (encode (Rows.setAtHL b) = [0xCB, 0xC6 + 8 * b.toByte] ∧ Completes (Rows.setAtHL b) s fun t =>
      ∃ w, IsWithBit (s.portValue s.HL) b.toByte.toNat true w ∧
        Frame [] [.read s.HL (s.portValue s.HL), .write s.HL w] s t)

/-- R210, R261 (the spec's own decision D16): at the handler-level interface an index above 7 raises `BitIndexFault`,
cause 1, for BIT, RES and SET alike, and no other index does. The fault leaves everything as it was but the record of the
(HL) form's read, which R212, R214 and R216 make before the unit (that it stays recorded is log entry 18, DESIGN CHOICE). -/
def Obligations.BitIndexAboveSevenFaults : Prop :=
  ∀ (kind : BitKind) (i : Byte) (r : Reg8) (s : State),
    (7 < i.toNat →
      (bitReg kind i r s = .fault (.bitIndexFault i) ∧
        StopsAfter [] (.fault (.bitIndexFault i)) s (s.settleBit (.reg r) (bitReg kind i r s))) ∧
      (bitAtHL kind i s = .fault (.bitIndexFault i) ∧
        StopsAfter [.read s.HL (s.portValue s.HL)] (.fault (.bitIndexFault i)) s
          (s.settleBit .atHL (bitAtHL kind i s)))) ∧
    (i.toNat ≤ 7 → (∃ t, bitReg kind i r s = .next t) ∧ ∃ t, bitAtHL kind i s = .next t) ∧
    (Fault.bitIndexFault i).cause = 1

/-- The round trip the spec derives in R215: SET b then RES b restores the register exactly when its bit b was 0, and RES b
then SET b exactly when it was 1. -/
def Obligations.SetThenResetRestoresIffClear : Prop :=
  ∀ (b : Field3) (r : Reg8) (s : State),
    (∃ t u, exec (Rows.setReg b r) s = .next t ∧ exec (Rows.resetReg b r) t = .next u ∧
      (u.reg r = s.reg r ↔ (s.reg r).getLsbD b.toByte.toNat = false)) ∧
    (∃ t u, exec (Rows.resetReg b r) s = .next t ∧ exec (Rows.setReg b r) t = .next u ∧
      (u.reg r = s.reg r ↔ (s.reg r).getLsbD b.toByte.toNat = true))

/-! ## Control transfer (spec/45_control.md) -/

/-- R222, R223, R224, R220: JP a16, JP cc,a16 and JP (HL). -/
def Obligations.AbsoluteJumps : Prop :=
  ∀ (s : State) (nn : Addr),
    (encode (.jp_a16 nn) = [0xC3, loByte nn, hiByte nn] ∧ Completes (.jp_a16 nn) s (JumpsTo nn s)) ∧
    (encode .jp_HL = [0xE9] ∧ Completes .jp_HL s (JumpsTo s.HL s)) ∧
    ∀ cc : Cond, encode (Rows.jpIf cc nn) = [0xC2 + 8 * ccCode cc, loByte nn, hiByte nn] ∧
      Completes (Rows.jpIf cc nn) s (JumpsTo (if taken cc s then nn else s.PC) s)

/-- R225, R226: JR e8 and JR cc,e8 add the signed offset to PC, which is Next-PC when the instruction runs
(StepRunsDecodedInstruction), modulo 2^16. -/
def Obligations.RelativeJumps : Prop :=
  ∀ (s : State) (e : Byte),
    (encode (.jr_e8 e) = [0x18, e] ∧ Completes (.jr_e8 e) s fun t =>
      (t.PC.toNat : Int) = ((s.PC.toNat : Int) + e.toInt) % 65536 ∧ Frame [.PC] [] s t) ∧
    ∀ cc : Cond, encode (Rows.jrIf cc e) = [0x20 + 8 * ccCode cc, e] ∧ Completes (Rows.jrIf cc e) s fun t =>
      (t.PC.toNat : Int) = (if taken cc s then ((s.PC.toNat : Int) + e.toInt) % 65536 else s.PC.toNat) ∧
      Frame [.PC] [] s t

/-- R227, R228: CALL pushes PC, which is Next-PC when the instruction runs, and jumps; a CALL cc not taken makes no access
and leaves SP. -/
def Obligations.CallsPushNextPC : Prop :=
  ∀ (s : State) (nn : Addr),
    (encode (.call_a16 nn) = [0xCD, loByte nn, hiByte nn] ∧ Completes (.call_a16 nn) s (CallsTo nn s)) ∧
    ∀ cc : Cond, encode (Rows.callIf cc nn) = [0xC4 + 8 * ccCode cc, loByte nn, hiByte nn] ∧
      Completes (Rows.callIf cc nn) s fun t =>
        (taken cc s = true → CallsTo nn s t) ∧ (taken cc s = false → Frame [] [] s t)

/-- R229, R230: RET pops PC; a RET cc not taken makes no access. -/
def Obligations.ReturnsPopPC : Prop :=
  ∀ s : State,
    (encode .ret = [0xC9] ∧ Completes .ret s (Returns s)) ∧
    ∀ cc : Cond, encode (Rows.retIf cc) = [0xC0 + 8 * ccCode cc] ∧ Completes (Rows.retIf cc) s fun t =>
      (taken cc s = true → Returns s t) ∧ (taken cc s = false → Frame [] [] s t)

/-- R231: RST t pushes Next-PC and jumps to 8 * t; the offsets are the spec's own choice (D23). -/
def Obligations.RestartsCallVector : Prop :=
  ∀ (s : State) (t : Field3), encode (Rows.rst t) = [0xC7 + 8 * t.toByte] ∧
    Completes (Rows.rst t) s (CallsTo (BitVec.ofNat 16 (8 * t.toByte.toNat)) s)

/-! ## Miscellaneous (spec/46_misc.md) -/

/-- R241: DAA by profile. Under DOC the test of A on entry and H = 0 are the spec's own decision D11; SM83 is from general
knowledge (K10). -/
def Obligations.DecimalAdjustByProfile : Prop :=
  encode .daa = [0x27] ∧ ∀ s, Completes .daa s fun t =>
    Frame [.A, .F] [] s t ∧
    (s.launch.flagProfile = .DOC →
      let lo := decide (s.A.toNat % 16 > 9) || s.flagH
      let hi := decide (s.A.toNat / 16 > 9) || s.flagC
      t.A.toNat = (s.A.toNat + (if lo then 0x06 else 0) + (if hi then 0x60 else 0)) % 256 ∧
        t.F = flagByte (t.A == 0) s.flagN false hi) ∧
    (s.launch.flagProfile = .SM83 → s.flagN = false →
      let hi := s.flagC || decide (s.A.toNat > 0x99)
      let lo := s.flagH || decide (s.A.toNat % 16 > 9)
      t.A.toNat = (s.A.toNat + (if lo then 0x06 else 0) + (if hi then 0x60 else 0)) % 256 ∧
        t.F = flagByte (t.A == 0) false false hi) ∧
    (s.launch.flagProfile = .SM83 → s.flagN = true →
      (t.A.toNat : Int) =
          ((s.A.toNat : Int) - (if s.flagC then 0x60 else 0) - (if s.flagH then 0x06 else 0)) % 256 ∧
        t.F = flagByte (t.A == 0) true false s.flagC)

/-- Derived from R148-R159 and R241 under SM83, which the spec takes from general knowledge (K10): DAA after an addition
of two BCD bytes gives the BCD sum with its carry, and after a subtraction the BCD difference with its borrow. -/
def Obligations.SiliconDecimalAdjustGivesBcd : Prop :=
  ∀ (s : State) (x y : Nat), x < 100 → y < 100 → s.launch.flagProfile = .SM83 → s.A = bcd x →
    (∃ t u, exec (.adc_A_d8 (bcd y)) s = .next t ∧ exec .daa t = .next u ∧
      u.A = bcd ((x + y + s.flagC.toNat) % 100) ∧ u.flagC = decide (100 ≤ x + y + s.flagC.toNat)) ∧
    (∃ t u, exec (.sbc_A_d8 (bcd y)) s = .next t ∧ exec .daa t = .next u ∧
      u.A = bcd ((x + 200 - y - s.flagC.toNat) % 100) ∧ u.flagC = decide (x < y + s.flagC.toNat))

/-- R242, R243, R244, R246: CPL, CCF, SCF and NOP. That CCF and SCF keep Z is the spec's own decision D12, that NOP runs is
its decision D15. -/
def Obligations.ComplementCarryAndNop : Prop :=
  ∀ s : State,
    (encode .cpl = [0x2F] ∧ Completes .cpl s fun t =>
      t.A.toNat = 255 - s.A.toNat ∧ t.F = flagByte s.flagZ true true s.flagC ∧ Frame [.A, .F] [] s t) ∧
    (encode .ccf = [0x3F] ∧ Completes .ccf s fun t =>
      t.F = flagByte s.flagZ false false (!s.flagC) ∧ Frame [.F] [] s t) ∧
    (encode .scf = [0x37] ∧ Completes .scf s fun t =>
      t.F = flagByte s.flagZ false false true ∧ Frame [.F] [] s t) ∧
    (encode .nop = [0x00] ∧ Completes .nop s fun t => Frame [] [] s t)

/-- R247-R251, R262 (the spec's own decision D14): HALT, STOP, DI, EI and RETI are refused; fetching their opcode ends the
run refused with nothing written, PC not advanced. The opcode's read is the step's one access, an event and a draw as R41 and
R48 say (that it stays recorded is log entry 5). -/
def Obligations.OutOfScopeOpcodesRefused : Prop :=
  (∀ x ∈ [(Instr.halt, (0x76 : Byte)), (.stop, 0x10), (.di, 0xF3), (.ei, 0xFB), (.reti, 0xD9)],
    encode x.1 = [x.2] ∧ ∀ s, exec x.1 s = .refused (.outOfScope x.2)) ∧
  ∀ (s : State) (op : Byte), s.outcome = .running → s.launch.stopAddr ≠ some s.PC → s.portValue s.PC = op →
    op ∈ outOfScopeOpcodes →
      step s = .refused (.outOfScope op) ∧ StopsAtOpcode op (.refused (.outOfScope op)) s (s.settle (step s))

/-- R252, R79, R263 (the spec's own decision D13): the eleven unassigned opcodes raise `IllegalOpcode`, cause 2; fetching one
ends the run in that fault with nothing written, PC not advanced. The opcode's read is the step's one access, an event and a
draw as R41 and R48 say (that it stays recorded is log entry 5). -/
def Obligations.IllegalOpcodesFault : Prop :=
  (∀ x ∈ [(Instr.illegal_D3, (0xD3 : Byte)), (.illegal_DB, 0xDB), (.illegal_DD, 0xDD), (.illegal_E3, 0xE3),
      (.illegal_E4, 0xE4), (.illegal_EB, 0xEB), (.illegal_EC, 0xEC), (.illegal_ED, 0xED), (.illegal_F4, 0xF4),
      (.illegal_FC, 0xFC), (.illegal_FD, 0xFD)],
    encode x.1 = [x.2] ∧ (∀ s, exec x.1 s = .fault (.illegalOpcode x.2)) ∧ (Fault.illegalOpcode x.2).cause = 2) ∧
  ∀ (s : State) (op : Byte), s.outcome = .running → s.launch.stopAddr ≠ some s.PC → s.portValue s.PC = op →
    op ∈ illegalOpcodes →
      step s = .fault (.illegalOpcode op) ∧ StopsAtOpcode op (.fault (.illegalOpcode op)) s (s.settle (step s))

/-- R64, R80: the prefix with its CB byte is the instruction the CB byte selects, and it completes for all 256. The prefix
row as a term of Instr is the model's own (log entry 9). -/
def Obligations.PrefixRunsTheSelectedRow : Prop :=
  ∀ (cb : Byte) (s : State),
    encode (.prefix_CB cb) = [0xCB, cb] ∧ decode [0xCB, cb] = .ok (decodeCB cb, []) ∧ encode (decodeCB cb) = [0xCB, cb] ∧
      Completes (.prefix_CB cb) s fun t => exec (decodeCB cb) s = .next t

/-! ## The step and the run -/

/-- R60, R62 (the spec's own decision D2): where the port returns the bytes of a well-formed instruction from PC on, a step
of a running state not at STOP_ADDR is that instruction's execution after exactly those reads, with PC advanced past them. -/
def Obligations.StepRunsDecodedInstruction : Prop :=
  ∀ (s : State) (i : Instr), i.wf = true → s.outcome = .running → s.launch.stopAddr ≠ some s.PC →
    PortHolds s.beginStep s.PC (encode i) →
      step s = exec i
        { readsFrom (encode i).length s.beginStep s.PC with PC := s.PC + BitVec.ofNat 16 (encode i).length } ∧
      Frame [] (readAccesses s.PC (encode i)) s.beginStep (readsFrom (encode i).length s.beginStep s.PC)

/-- R287, R264, R260 (the spec's own decisions D16, D19; log entry 4): at STOP_ADDR a running run becomes done with nothing
fetched, whatever byte stands there; a run that has ended takes no further step. -/
def Obligations.RunsEndAndStayEnded : Prop :=
  ∀ s : State,
    (s.outcome = .running → s.launch.stopAddr = some s.PC →
      ∃ t, step s = .next t ∧ t.outcome = .done ∧ t.bus = [] ∧ { t with outcome := s.outcome, bus := s.bus } = s) ∧
    (∀ t, step s = .next t → s.outcome = .running) ∧
    (∀ r, s.outcome = .fault r → step s = .fault r ∧ s.settle (step s) = s) ∧
    (∀ r, s.outcome = .refused r → step s = .refused r ∧ s.settle (step s) = s)

/-- Decoding the encoding of any well-formed instruction, whatever bytes follow, gives it back with what follows. -/
def Obligations.DecodeInvertsEncode : Prop :=
  ∀ (i : Instr) (rest : List Byte), i.wf = true →
    decode (encode i ++ rest) = .ok (i, rest) ∧
      (encode i).length = 1 + operandBytes ((encode i).headD 0)

/-- R61, R69 (the opcode map is the spec's own choice D26): every list of at least three bytes decodes, to a well-formed
instruction whose encoding it begins with. -/
def Obligations.DecodeIsTotalAndExact : Prop :=
  ∀ (op b1 b2 : Byte) (rest : List Byte), ∃ i rest',
    decode (op :: b1 :: b2 :: rest) = .ok (i, rest') ∧ i.wf = true ∧ encode i ++ rest' = op :: b1 :: b2 :: rest

/-- Words written out from the opcode maps R78 and R80 (from general knowledge, D26) decode to their instructions. -/
def Obligations.WrittenOutWordsDecode : Prop :=
  decode [0x41] = .ok (.ld_B_C, []) ∧ decode [0x3E, 0x45] = .ok (.ld_A_d8 0x45, []) ∧
  decode [0x21, 0xFF, 0x0F] = .ok (.ld_HL_d16 0x0FFF, []) ∧ decode [0xCD, 0x34, 0x12] = .ok (.call_a16 0x1234, []) ∧
  decode [0xCB, 0x7C] = .ok (.bit_7_H, []) ∧ decode [0xCB, 0x86] = .ok (.res_0_atHL, []) ∧
  decode [0x20, 0xFC] = .ok (.jr_NZ_e8 0xFC, []) ∧ decode [0x9C] = .ok (.sbc_A_H, []) ∧
  decode [0xCB, 0x15] = .ok (.rl_L, []) ∧ decode [0x76] = .ok (.halt, []) ∧ decode [0xDD] = .ok (.illegal_DD, [])

/-- Every step from a state with the invariant leads to a state with it: memory stays canonical, F's low nibble stays zero
(R23), and the IO events and draws stay in step (R6; the event record is log entry 7, the count of draws log entry 3). -/
def Obligations.StepKeepsInvariant : Prop :=
  ∀ s t : State, s.Inv → step s = .next t → t.Inv

/-- R13, R14, R47, R293, over the bus record of log entry 7 and the count of draws of log entry 3 (DESIGN CHOICES): a step's whole effect on memory and on the IO record is that of
the port accesses on its bus, in order: at most five of them, at most two writes; and the run's parameters never change. -/
def Obligations.StepEffectsAreItsBusAccesses : Prop :=
  ∀ s t : State, step s = .next t →
    (∀ a, t.peek a = lastWritten t.bus a (s.peek a)) ∧
    t.ioEvents = s.ioEvents ++ t.bus.filter (fun x => s.ioAt x.addr) ∧
    t.draws = s.draws + (t.bus.filter (fun x => x.isRead && s.ioAt x.addr)).length ∧
    t.bus.length ≤ 5 ∧ (t.bus.filter (fun x => !x.isRead)).length ≤ 2 ∧ t.launch = s.launch

/-- What the spec derives in R264: no instruction but an unassigned opcode's row faults, none but an out-of-scope opcode's is
refused, each with its own opcode; in particular no decoded instruction raises `BitIndexFault` (R261). -/
def Obligations.OnlyListedOpcodesStop : Prop :=
  ∀ (i : Instr) (s : State),
    (∀ r, exec i s = .fault r → ∃ op ∈ illegalOpcodes, encode i = [op] ∧ r = .illegalOpcode op) ∧
    (∀ r, exec i s = .refused r → ∃ op ∈ outOfScopeOpcodes, encode i = [op] ∧ r = .outOfScope op)

/-- R28 (the spec's own decision D2), R27: an instruction other than JP, JR, CALL, RET and RST leaves PC at Next-PC, and one
that is not named by R27's list leaves SP. -/
def Obligations.OnlyListedOpcodesWritePCAndSP : Prop :=
  ∀ (i : Instr) (s t : State), exec i s = .next t →
    ((encode i).headD 0 ∉ transferOpcodes → t.PC = s.PC) ∧
    ((encode i).headD 0 ∉ stackPointerOpcodes → t.SP = s.SP)

/-- R5 (the spec's own decision D8): outside DAA, ADD SP,e8, LD HL,SP+e8 and the four accumulator rotates the two flag
profiles agree. -/
def Obligations.ProfilesAgreeElsewhere : Prop :=
  ∀ (i : Instr) (s : State) (p : FlagProfile), (encode i).headD 0 ∉ profileOpcodes →
    exec i (s.withProfile p) = mapNext (fun t => t.withProfile p) (exec i s)
end

