-- ==== Sys2Proof/Laws/Decode.lean ====
section
/-! SUPPORT. Lemmas of the decoder: the byte helpers, and decode by the number of operand bytes. -/

namespace Sys2Proof.Laws

/-! ## Bytes and words -/

theorem word16_hi_lo (v : Addr) : word16 (hiByte v) (loByte v) = v := by
  ext i hi
  by_cases h : i < 8
  · simp [word16, hiByte, loByte, h, BitVec.getLsbD_eq_getElem hi]
  · simp [word16, hiByte, loByte, h, show 8 + (i - 8) = i by omega, BitVec.getLsbD_eq_getElem hi]
    omega

theorem hiByte_word16 (hi lo : Byte) : hiByte (word16 hi lo) = hi := by
  ext i h
  simp [word16, hiByte, show 8 + i < 16 by omega, show i < 16 by omega, BitVec.getLsbD_eq_getElem h]

theorem loByte_word16 (hi lo : Byte) : loByte (word16 hi lo) = lo := by
  ext i h
  simp [word16, loByte]

theorem word16_toNat (hi lo : Byte) : (word16 hi lo).toNat = hi.toNat * 256 + lo.toNat := by
  have h1 : hi.toNat < 256 := hi.isLt
  have h2 : lo.toNat < 2 ^ 8 := lo.isLt
  simp only [word16, BitVec.toNat_or, BitVec.toNat_shiftLeft, BitVec.toNat_setWidth]
  rw [Nat.mod_eq_of_lt (by omega : hi.toNat < 2 ^ 16), Nat.mod_eq_of_lt (by omega : lo.toNat < 2 ^ 16),
    Nat.mod_eq_of_lt (by rw [Nat.shiftLeft_eq]; omega), ← Nat.shiftLeft_add_eq_or_of_lt h2, Nat.shiftLeft_eq]

/-! ## decode by the number of operand bytes -/

theorem decode_one (op : Byte) (rest : List Byte) (h : operandBytes op = 0) :
    decode (op :: rest) = .ok (decodeInsn op 0 0, rest) := by
  simp [decode, h]

theorem decode_two (op b1 : Byte) (rest : List Byte) (h : operandBytes op = 1) :
    decode (op :: b1 :: rest) = .ok (decodeInsn op b1 0, rest) := by
  simp [decode, h]

theorem decode_three (op b1 b2 : Byte) (rest : List Byte) (h : operandBytes op = 2) :
    decode (op :: b1 :: b2 :: rest) = .ok (decodeInsn op b1 b2, rest) := by
  simp [decode, h]

theorem operandBytes_le_two (op : Byte) : operandBytes op ≤ 2 := by
  unfold operandBytes; split <;> [skip; split] <;> omega

end Sys2Proof.Laws
end

