-- ==== Sys2Proof/Laws/Memory.lean ====
section
/-! SUPPORT. The laws of memory: a read after a write, and the canonical form every operation keeps. -/

namespace Sys2Proof.Machine

/-! ## Read after write -/

theorem Memory.get_erase (m : List Host.Cell) (a b : Nat) :
    Memory.get (Memory.erase m a) b = if b = a then Memory.unlisted else Memory.get m b := by
  induction m with
  | nil => simp [Memory.erase, Memory.get]
  | cons c m ih =>
    obtain ⟨k, v⟩ := c
    by_cases hk : k = a
    · subst hk
      rw [Memory.erase, if_pos rfl, ih, Memory.get]
      by_cases hb : b = k
      · simp [hb]
      · simp [hb, Ne.symm hb]
    · rw [Memory.erase, if_neg hk, Memory.get, ih, Memory.get]
      by_cases hb : k = b
      · subst hb; simp [hk]
      · simp [hb]

theorem Memory.get_insert (m : List Host.Cell) (a b : Nat) (v : Byte)
    (ha : Memory.get m a = Memory.unlisted ∧ ∀ c ∈ m, c.1 ≠ a) :
    Memory.get (Memory.insert m a v) b = if b = a then v else Memory.get m b := by
  induction m with
  | nil => simp [Memory.insert, Memory.get, eq_comm]
  | cons c m ih =>
    obtain ⟨k, w⟩ := c
    have hk : k ≠ a := ha.2 (k, w) (by simp)
    rw [Memory.insert]
    split
    · rw [Memory.get]
      by_cases hb : b = a
      · simp [hb]
      · simp [hb, Ne.symm hb]
    · rw [Memory.get, Memory.get, ih ⟨by simpa [Memory.get, hk] using ha.1, fun c hc => ha.2 c (by simp [hc])⟩]
      by_cases hb : k = b
      · subst hb; simp [hk]
      · simp [hb]

theorem Memory.ne_of_mem_erase (m : List Host.Cell) (a : Nat) : ∀ c ∈ Memory.erase m a, c.1 ≠ a := by
  induction m with
  | nil => simp [Memory.erase]
  | cons c m ih =>
    obtain ⟨k, v⟩ := c
    rw [Memory.erase]
    split
    · exact ih
    · rename_i hk
      intro c hc
      rcases List.mem_cons.mp hc with rfl | hc
      · exact hk
      · exact ih c hc

/-- A read after a write: the byte written at its address, and what was there anywhere else. -/
theorem Memory.get_set (m : List Host.Cell) (a b : Nat) (v : Byte) :
    Memory.get (Memory.set m a v) b = if b = a then v else Memory.get m b := by
  unfold Memory.set
  split
  · rename_i hv
    rw [Memory.get_erase, hv]
  · rw [Memory.get_insert _ _ _ _ ⟨by rw [Memory.get_erase]; simp, Memory.ne_of_mem_erase m a⟩, Memory.get_erase]
    split <;> rfl

/-! ## The canonical form -/

theorem Memory.wfFrom_mono {lo lo' : Nat} {m : List Host.Cell} (h : lo' ≤ lo) (hm : Memory.wfFrom lo m = true) :
    Memory.wfFrom lo' m = true := by
  cases m with
  | nil => rfl
  | cons c m =>
    obtain ⟨k, v⟩ := c
    simp only [Memory.wfFrom, Bool.and_eq_true, decide_eq_true_eq] at hm ⊢
    exact ⟨⟨⟨by omega, hm.1.1.2⟩, hm.1.2⟩, hm.2⟩

theorem Memory.wfFrom_erase {lo : Nat} {m : List Host.Cell} (a : Nat) (hm : Memory.wfFrom lo m = true) :
    Memory.wfFrom lo (Memory.erase m a) = true := by
  induction m generalizing lo with
  | nil => exact hm
  | cons c m ih =>
    obtain ⟨k, v⟩ := c
    simp only [Memory.wfFrom, Bool.and_eq_true, decide_eq_true_eq] at hm
    rw [Memory.erase]
    split
    · exact Memory.wfFrom_mono (by omega) (ih hm.2)
    · simp only [Memory.wfFrom, Bool.and_eq_true, decide_eq_true_eq]
      exact ⟨hm.1, ih hm.2⟩

theorem Memory.wfFrom_insert {lo a : Nat} {v : Byte} {m : List Host.Cell} (hlo : lo ≤ a) (ha : a < 65536)
    (hv : v ≠ Memory.unlisted) (hm : Memory.wfFrom lo m = true) (hne : ∀ c ∈ m, c.1 ≠ a) :
    Memory.wfFrom lo (Memory.insert m a v) = true := by
  induction m generalizing lo with
  | nil => simp [Memory.insert, Memory.wfFrom, hlo, ha, hv]
  | cons c m ih =>
    obtain ⟨k, w⟩ := c
    have hk : k ≠ a := hne (k, w) (by simp)
    simp only [Memory.wfFrom, Bool.and_eq_true, decide_eq_true_eq] at hm
    rw [Memory.insert]
    split
    · simp only [Memory.wfFrom, Bool.and_eq_true, decide_eq_true_eq, bne_iff_ne]
      exact ⟨⟨⟨hlo, ha⟩, hv⟩, ⟨⟨⟨by omega, hm.1.1.2⟩, by simpa using hm.1.2⟩, hm.2⟩⟩
    · simp only [Memory.wfFrom, Bool.and_eq_true, decide_eq_true_eq]
      exact ⟨hm.1, ih (by omega) hm.2 fun c hc => hne c (by simp [hc])⟩

/-- A write keeps the canonical form. -/
theorem Memory.wf_set {m : List Host.Cell} {a : Nat} (v : Byte) (ha : a < 65536) (hm : Memory.wf m = true) :
    Memory.wf (Memory.set m a v) = true := by
  unfold Memory.set
  split
  · exact Memory.wfFrom_erase a hm
  · rename_i hv
    exact Memory.wfFrom_insert (Nat.zero_le _) ha hv (Memory.wfFrom_erase a hm) (Memory.ne_of_mem_erase m a)

/-- Loading an image keeps the canonical form. -/
theorem Memory.wf_load (bytes : List Byte) (m : List Host.Cell) (a : Addr) (hm : Memory.wf m = true) :
    Memory.wf (Memory.load m a bytes) = true := by
  induction bytes generalizing m a with
  | nil => exact hm
  | cons b bs ih => exact ih _ _ (Memory.wf_set b a.isLt hm)

/-! ## Through the port -/

theorem State.peek_afterRead (s : State) (a b : Addr) : (s.afterRead a).peek b = s.peek b := rfl

theorem State.peek_writeByte (s : State) (a b : Addr) (v : Byte) :
    (s.writeByte a v).peek b = if b = a then v else s.peek b := by
  simp only [State.peek, State.writeByte, Memory.get_set]
  by_cases h : b = a
  · simp [h]
  · rw [if_neg h, if_neg fun h' => h (BitVec.eq_of_toNat_eq h')]

end Sys2Proof.Machine
end

