-- ==== Sys2Proof/Laws/State.lean ====
section
/-! SUPPORT. One lemma per field per update of State: what an update leaves and what it sets, so that no proof unfolds a record
update. -/

namespace Sys2Proof.Machine

/-! ### afterRead -/

@[simp] theorem State.afterRead_A (s : State) (a : Addr) : (s.afterRead a).A = s.A := rfl
@[simp] theorem State.afterRead_F (s : State) (a : Addr) : (s.afterRead a).F = s.F := rfl
@[simp] theorem State.afterRead_B (s : State) (a : Addr) : (s.afterRead a).B = s.B := rfl
@[simp] theorem State.afterRead_C (s : State) (a : Addr) : (s.afterRead a).C = s.C := rfl
@[simp] theorem State.afterRead_D (s : State) (a : Addr) : (s.afterRead a).D = s.D := rfl
@[simp] theorem State.afterRead_E (s : State) (a : Addr) : (s.afterRead a).E = s.E := rfl
@[simp] theorem State.afterRead_H (s : State) (a : Addr) : (s.afterRead a).H = s.H := rfl
@[simp] theorem State.afterRead_L (s : State) (a : Addr) : (s.afterRead a).L = s.L := rfl
@[simp] theorem State.afterRead_SP (s : State) (a : Addr) : (s.afterRead a).SP = s.SP := rfl
@[simp] theorem State.afterRead_PC (s : State) (a : Addr) : (s.afterRead a).PC = s.PC := rfl
@[simp] theorem State.afterRead_mem (s : State) (a : Addr) : (s.afterRead a).mem = s.mem := rfl
@[simp] theorem State.afterRead_outcome (s : State) (a : Addr) : (s.afterRead a).outcome = s.outcome := rfl
@[simp] theorem State.afterRead_launch (s : State) (a : Addr) : (s.afterRead a).launch = s.launch := rfl
@[simp] theorem State.afterRead_bus (s : State) (a : Addr) : (s.afterRead a).bus = s.bus ++ [.read a (s.portValue a)] := rfl

/-! ### writeByte -/

@[simp] theorem State.writeByte_A (s : State) (a : Addr) (v : Byte) : (s.writeByte a v).A = s.A := rfl
@[simp] theorem State.writeByte_F (s : State) (a : Addr) (v : Byte) : (s.writeByte a v).F = s.F := rfl
@[simp] theorem State.writeByte_B (s : State) (a : Addr) (v : Byte) : (s.writeByte a v).B = s.B := rfl
@[simp] theorem State.writeByte_C (s : State) (a : Addr) (v : Byte) : (s.writeByte a v).C = s.C := rfl
@[simp] theorem State.writeByte_D (s : State) (a : Addr) (v : Byte) : (s.writeByte a v).D = s.D := rfl
@[simp] theorem State.writeByte_E (s : State) (a : Addr) (v : Byte) : (s.writeByte a v).E = s.E := rfl
@[simp] theorem State.writeByte_H (s : State) (a : Addr) (v : Byte) : (s.writeByte a v).H = s.H := rfl
@[simp] theorem State.writeByte_L (s : State) (a : Addr) (v : Byte) : (s.writeByte a v).L = s.L := rfl
@[simp] theorem State.writeByte_SP (s : State) (a : Addr) (v : Byte) : (s.writeByte a v).SP = s.SP := rfl
@[simp] theorem State.writeByte_PC (s : State) (a : Addr) (v : Byte) : (s.writeByte a v).PC = s.PC := rfl
@[simp] theorem State.writeByte_mem (s : State) (a : Addr) (v : Byte) : (s.writeByte a v).mem = Memory.set s.mem a.toNat v := rfl
@[simp] theorem State.writeByte_outcome (s : State) (a : Addr) (v : Byte) : (s.writeByte a v).outcome = s.outcome := rfl
@[simp] theorem State.writeByte_launch (s : State) (a : Addr) (v : Byte) : (s.writeByte a v).launch = s.launch := rfl
@[simp] theorem State.writeByte_bus (s : State) (a : Addr) (v : Byte) : (s.writeByte a v).bus = s.bus ++ [.write a v] := rfl
@[simp] theorem State.writeByte_draws (s : State) (a : Addr) (v : Byte) : (s.writeByte a v).draws = s.draws := rfl

/-! ### writeF -/

@[simp] theorem State.writeF_A (s : State) (v : Byte) : (s.writeF v).A = s.A := rfl
@[simp] theorem State.writeF_F (s : State) (v : Byte) : (s.writeF v).F = v &&& 0xF0 := rfl
@[simp] theorem State.writeF_B (s : State) (v : Byte) : (s.writeF v).B = s.B := rfl
@[simp] theorem State.writeF_C (s : State) (v : Byte) : (s.writeF v).C = s.C := rfl
@[simp] theorem State.writeF_D (s : State) (v : Byte) : (s.writeF v).D = s.D := rfl
@[simp] theorem State.writeF_E (s : State) (v : Byte) : (s.writeF v).E = s.E := rfl
@[simp] theorem State.writeF_H (s : State) (v : Byte) : (s.writeF v).H = s.H := rfl
@[simp] theorem State.writeF_L (s : State) (v : Byte) : (s.writeF v).L = s.L := rfl
@[simp] theorem State.writeF_SP (s : State) (v : Byte) : (s.writeF v).SP = s.SP := rfl
@[simp] theorem State.writeF_PC (s : State) (v : Byte) : (s.writeF v).PC = s.PC := rfl
@[simp] theorem State.writeF_mem (s : State) (v : Byte) : (s.writeF v).mem = s.mem := rfl
@[simp] theorem State.writeF_outcome (s : State) (v : Byte) : (s.writeF v).outcome = s.outcome := rfl
@[simp] theorem State.writeF_launch (s : State) (v : Byte) : (s.writeF v).launch = s.launch := rfl
@[simp] theorem State.writeF_bus (s : State) (v : Byte) : (s.writeF v).bus = s.bus := rfl
@[simp] theorem State.writeF_ioEvents (s : State) (v : Byte) : (s.writeF v).ioEvents = s.ioEvents := rfl
@[simp] theorem State.writeF_draws (s : State) (v : Byte) : (s.writeF v).draws = s.draws := rfl

/-! ### setBC -/

@[simp] theorem State.setBC_A (s : State) (v : Addr) : (s.setBC v).A = s.A := rfl
@[simp] theorem State.setBC_F (s : State) (v : Addr) : (s.setBC v).F = s.F := rfl
@[simp] theorem State.setBC_B (s : State) (v : Addr) : (s.setBC v).B = hiByte v := rfl
@[simp] theorem State.setBC_C (s : State) (v : Addr) : (s.setBC v).C = loByte v := rfl
@[simp] theorem State.setBC_D (s : State) (v : Addr) : (s.setBC v).D = s.D := rfl
@[simp] theorem State.setBC_E (s : State) (v : Addr) : (s.setBC v).E = s.E := rfl
@[simp] theorem State.setBC_H (s : State) (v : Addr) : (s.setBC v).H = s.H := rfl
@[simp] theorem State.setBC_L (s : State) (v : Addr) : (s.setBC v).L = s.L := rfl
@[simp] theorem State.setBC_SP (s : State) (v : Addr) : (s.setBC v).SP = s.SP := rfl
@[simp] theorem State.setBC_PC (s : State) (v : Addr) : (s.setBC v).PC = s.PC := rfl
@[simp] theorem State.setBC_mem (s : State) (v : Addr) : (s.setBC v).mem = s.mem := rfl
@[simp] theorem State.setBC_outcome (s : State) (v : Addr) : (s.setBC v).outcome = s.outcome := rfl
@[simp] theorem State.setBC_launch (s : State) (v : Addr) : (s.setBC v).launch = s.launch := rfl
@[simp] theorem State.setBC_bus (s : State) (v : Addr) : (s.setBC v).bus = s.bus := rfl
@[simp] theorem State.setBC_ioEvents (s : State) (v : Addr) : (s.setBC v).ioEvents = s.ioEvents := rfl
@[simp] theorem State.setBC_draws (s : State) (v : Addr) : (s.setBC v).draws = s.draws := rfl

/-! ### setDE -/

@[simp] theorem State.setDE_A (s : State) (v : Addr) : (s.setDE v).A = s.A := rfl
@[simp] theorem State.setDE_F (s : State) (v : Addr) : (s.setDE v).F = s.F := rfl
@[simp] theorem State.setDE_B (s : State) (v : Addr) : (s.setDE v).B = s.B := rfl
@[simp] theorem State.setDE_C (s : State) (v : Addr) : (s.setDE v).C = s.C := rfl
@[simp] theorem State.setDE_D (s : State) (v : Addr) : (s.setDE v).D = hiByte v := rfl
@[simp] theorem State.setDE_E (s : State) (v : Addr) : (s.setDE v).E = loByte v := rfl
@[simp] theorem State.setDE_H (s : State) (v : Addr) : (s.setDE v).H = s.H := rfl
@[simp] theorem State.setDE_L (s : State) (v : Addr) : (s.setDE v).L = s.L := rfl
@[simp] theorem State.setDE_SP (s : State) (v : Addr) : (s.setDE v).SP = s.SP := rfl
@[simp] theorem State.setDE_PC (s : State) (v : Addr) : (s.setDE v).PC = s.PC := rfl
@[simp] theorem State.setDE_mem (s : State) (v : Addr) : (s.setDE v).mem = s.mem := rfl
@[simp] theorem State.setDE_outcome (s : State) (v : Addr) : (s.setDE v).outcome = s.outcome := rfl
@[simp] theorem State.setDE_launch (s : State) (v : Addr) : (s.setDE v).launch = s.launch := rfl
@[simp] theorem State.setDE_bus (s : State) (v : Addr) : (s.setDE v).bus = s.bus := rfl
@[simp] theorem State.setDE_ioEvents (s : State) (v : Addr) : (s.setDE v).ioEvents = s.ioEvents := rfl
@[simp] theorem State.setDE_draws (s : State) (v : Addr) : (s.setDE v).draws = s.draws := rfl

/-! ### setHL -/

@[simp] theorem State.setHL_A (s : State) (v : Addr) : (s.setHL v).A = s.A := rfl
@[simp] theorem State.setHL_F (s : State) (v : Addr) : (s.setHL v).F = s.F := rfl
@[simp] theorem State.setHL_B (s : State) (v : Addr) : (s.setHL v).B = s.B := rfl
@[simp] theorem State.setHL_C (s : State) (v : Addr) : (s.setHL v).C = s.C := rfl
@[simp] theorem State.setHL_D (s : State) (v : Addr) : (s.setHL v).D = s.D := rfl
@[simp] theorem State.setHL_E (s : State) (v : Addr) : (s.setHL v).E = s.E := rfl
@[simp] theorem State.setHL_H (s : State) (v : Addr) : (s.setHL v).H = hiByte v := rfl
@[simp] theorem State.setHL_L (s : State) (v : Addr) : (s.setHL v).L = loByte v := rfl
@[simp] theorem State.setHL_SP (s : State) (v : Addr) : (s.setHL v).SP = s.SP := rfl
@[simp] theorem State.setHL_PC (s : State) (v : Addr) : (s.setHL v).PC = s.PC := rfl
@[simp] theorem State.setHL_mem (s : State) (v : Addr) : (s.setHL v).mem = s.mem := rfl
@[simp] theorem State.setHL_outcome (s : State) (v : Addr) : (s.setHL v).outcome = s.outcome := rfl
@[simp] theorem State.setHL_launch (s : State) (v : Addr) : (s.setHL v).launch = s.launch := rfl
@[simp] theorem State.setHL_bus (s : State) (v : Addr) : (s.setHL v).bus = s.bus := rfl
@[simp] theorem State.setHL_ioEvents (s : State) (v : Addr) : (s.setHL v).ioEvents = s.ioEvents := rfl
@[simp] theorem State.setHL_draws (s : State) (v : Addr) : (s.setHL v).draws = s.draws := rfl

/-! ### setAF -/

@[simp] theorem State.setAF_A (s : State) (v : Addr) : (s.setAF v).A = hiByte v := rfl
@[simp] theorem State.setAF_F (s : State) (v : Addr) : (s.setAF v).F = loByte v &&& 0xF0 := rfl
@[simp] theorem State.setAF_B (s : State) (v : Addr) : (s.setAF v).B = s.B := rfl
@[simp] theorem State.setAF_C (s : State) (v : Addr) : (s.setAF v).C = s.C := rfl
@[simp] theorem State.setAF_D (s : State) (v : Addr) : (s.setAF v).D = s.D := rfl
@[simp] theorem State.setAF_E (s : State) (v : Addr) : (s.setAF v).E = s.E := rfl
@[simp] theorem State.setAF_H (s : State) (v : Addr) : (s.setAF v).H = s.H := rfl
@[simp] theorem State.setAF_L (s : State) (v : Addr) : (s.setAF v).L = s.L := rfl
@[simp] theorem State.setAF_SP (s : State) (v : Addr) : (s.setAF v).SP = s.SP := rfl
@[simp] theorem State.setAF_PC (s : State) (v : Addr) : (s.setAF v).PC = s.PC := rfl
@[simp] theorem State.setAF_mem (s : State) (v : Addr) : (s.setAF v).mem = s.mem := rfl
@[simp] theorem State.setAF_outcome (s : State) (v : Addr) : (s.setAF v).outcome = s.outcome := rfl
@[simp] theorem State.setAF_launch (s : State) (v : Addr) : (s.setAF v).launch = s.launch := rfl
@[simp] theorem State.setAF_bus (s : State) (v : Addr) : (s.setAF v).bus = s.bus := rfl
@[simp] theorem State.setAF_ioEvents (s : State) (v : Addr) : (s.setAF v).ioEvents = s.ioEvents := rfl
@[simp] theorem State.setAF_draws (s : State) (v : Addr) : (s.setAF v).draws = s.draws := rfl

/-! ### goto -/

@[simp] theorem State.goto_A (s : State) (t : Addr) : (s.goto t).A = s.A := rfl
@[simp] theorem State.goto_F (s : State) (t : Addr) : (s.goto t).F = s.F := rfl
@[simp] theorem State.goto_B (s : State) (t : Addr) : (s.goto t).B = s.B := rfl
@[simp] theorem State.goto_C (s : State) (t : Addr) : (s.goto t).C = s.C := rfl
@[simp] theorem State.goto_D (s : State) (t : Addr) : (s.goto t).D = s.D := rfl
@[simp] theorem State.goto_E (s : State) (t : Addr) : (s.goto t).E = s.E := rfl
@[simp] theorem State.goto_H (s : State) (t : Addr) : (s.goto t).H = s.H := rfl
@[simp] theorem State.goto_L (s : State) (t : Addr) : (s.goto t).L = s.L := rfl
@[simp] theorem State.goto_SP (s : State) (t : Addr) : (s.goto t).SP = s.SP := rfl
@[simp] theorem State.goto_PC (s : State) (t : Addr) : (s.goto t).PC = t := rfl
@[simp] theorem State.goto_mem (s : State) (t : Addr) : (s.goto t).mem = s.mem := rfl
@[simp] theorem State.goto_outcome (s : State) (t : Addr) : (s.goto t).outcome = s.outcome := rfl
@[simp] theorem State.goto_launch (s : State) (t : Addr) : (s.goto t).launch = s.launch := rfl
@[simp] theorem State.goto_bus (s : State) (t : Addr) : (s.goto t).bus = s.bus := rfl
@[simp] theorem State.goto_ioEvents (s : State) (t : Addr) : (s.goto t).ioEvents = s.ioEvents := rfl
@[simp] theorem State.goto_draws (s : State) (t : Addr) : (s.goto t).draws = s.draws := rfl

/-! ### beginStep -/

@[simp] theorem State.beginStep_A (s : State) : (s.beginStep).A = s.A := rfl
@[simp] theorem State.beginStep_F (s : State) : (s.beginStep).F = s.F := rfl
@[simp] theorem State.beginStep_B (s : State) : (s.beginStep).B = s.B := rfl
@[simp] theorem State.beginStep_C (s : State) : (s.beginStep).C = s.C := rfl
@[simp] theorem State.beginStep_D (s : State) : (s.beginStep).D = s.D := rfl
@[simp] theorem State.beginStep_E (s : State) : (s.beginStep).E = s.E := rfl
@[simp] theorem State.beginStep_H (s : State) : (s.beginStep).H = s.H := rfl
@[simp] theorem State.beginStep_L (s : State) : (s.beginStep).L = s.L := rfl
@[simp] theorem State.beginStep_SP (s : State) : (s.beginStep).SP = s.SP := rfl
@[simp] theorem State.beginStep_PC (s : State) : (s.beginStep).PC = s.PC := rfl
@[simp] theorem State.beginStep_mem (s : State) : (s.beginStep).mem = s.mem := rfl
@[simp] theorem State.beginStep_outcome (s : State) : (s.beginStep).outcome = s.outcome := rfl
@[simp] theorem State.beginStep_launch (s : State) : (s.beginStep).launch = s.launch := rfl
@[simp] theorem State.beginStep_bus (s : State) : (s.beginStep).bus = [] := rfl
@[simp] theorem State.beginStep_ioEvents (s : State) : (s.beginStep).ioEvents = s.ioEvents := rfl
@[simp] theorem State.beginStep_draws (s : State) : (s.beginStep).draws = s.draws := rfl

/-! ### opcodeRead -/

@[simp] theorem State.opcodeRead_A (s : State) : s.opcodeRead.A = s.A := rfl
@[simp] theorem State.opcodeRead_F (s : State) : s.opcodeRead.F = s.F := rfl
@[simp] theorem State.opcodeRead_B (s : State) : s.opcodeRead.B = s.B := rfl
@[simp] theorem State.opcodeRead_C (s : State) : s.opcodeRead.C = s.C := rfl
@[simp] theorem State.opcodeRead_D (s : State) : s.opcodeRead.D = s.D := rfl
@[simp] theorem State.opcodeRead_E (s : State) : s.opcodeRead.E = s.E := rfl
@[simp] theorem State.opcodeRead_H (s : State) : s.opcodeRead.H = s.H := rfl
@[simp] theorem State.opcodeRead_L (s : State) : s.opcodeRead.L = s.L := rfl
@[simp] theorem State.opcodeRead_SP (s : State) : s.opcodeRead.SP = s.SP := rfl
@[simp] theorem State.opcodeRead_PC (s : State) : s.opcodeRead.PC = s.PC := rfl
@[simp] theorem State.opcodeRead_mem (s : State) : s.opcodeRead.mem = s.mem := rfl
@[simp] theorem State.opcodeRead_outcome (s : State) : s.opcodeRead.outcome = s.outcome := rfl
@[simp] theorem State.opcodeRead_launch (s : State) : s.opcodeRead.launch = s.launch := rfl
@[simp] theorem State.opcodeRead_bus (s : State) : s.opcodeRead.bus = [.read s.PC (s.portValue s.PC)] := rfl
@[simp] theorem State.opcodeRead_ioEvents (s : State) : s.opcodeRead.ioEvents = (s.afterRead s.PC).ioEvents := rfl
@[simp] theorem State.opcodeRead_draws (s : State) : s.opcodeRead.draws = (s.afterRead s.PC).draws := rfl

/-! ### bitOperandRead -/

@[simp] theorem State.bitOperandRead_reg (s : State) (r : Reg8) : s.bitOperandRead (.reg r) = s := rfl
@[simp] theorem State.bitOperandRead_atHL (s : State) : s.bitOperandRead .atHL = s.afterRead s.HL := rfl

/-! ### markDone -/

@[simp] theorem State.markDone_A (s : State) : (s.markDone).A = s.A := rfl
@[simp] theorem State.markDone_F (s : State) : (s.markDone).F = s.F := rfl
@[simp] theorem State.markDone_B (s : State) : (s.markDone).B = s.B := rfl
@[simp] theorem State.markDone_C (s : State) : (s.markDone).C = s.C := rfl
@[simp] theorem State.markDone_D (s : State) : (s.markDone).D = s.D := rfl
@[simp] theorem State.markDone_E (s : State) : (s.markDone).E = s.E := rfl
@[simp] theorem State.markDone_H (s : State) : (s.markDone).H = s.H := rfl
@[simp] theorem State.markDone_L (s : State) : (s.markDone).L = s.L := rfl
@[simp] theorem State.markDone_SP (s : State) : (s.markDone).SP = s.SP := rfl
@[simp] theorem State.markDone_PC (s : State) : (s.markDone).PC = s.PC := rfl
@[simp] theorem State.markDone_mem (s : State) : (s.markDone).mem = s.mem := rfl
@[simp] theorem State.markDone_outcome (s : State) : (s.markDone).outcome = .done := rfl
@[simp] theorem State.markDone_launch (s : State) : (s.markDone).launch = s.launch := rfl
@[simp] theorem State.markDone_bus (s : State) : (s.markDone).bus = s.bus := rfl
@[simp] theorem State.markDone_ioEvents (s : State) : (s.markDone).ioEvents = s.ioEvents := rfl
@[simp] theorem State.markDone_draws (s : State) : (s.markDone).draws = s.draws := rfl

/-! ### setReg: the byte registers through the multiplexer -/

@[simp] theorem State.setReg_F (s : State) (r : Reg8) (v : Byte) : (s.setReg r v).F = s.F := by cases r <;> rfl
@[simp] theorem State.setReg_SP (s : State) (r : Reg8) (v : Byte) : (s.setReg r v).SP = s.SP := by cases r <;> rfl
@[simp] theorem State.setReg_PC (s : State) (r : Reg8) (v : Byte) : (s.setReg r v).PC = s.PC := by cases r <;> rfl
@[simp] theorem State.setReg_mem (s : State) (r : Reg8) (v : Byte) : (s.setReg r v).mem = s.mem := by cases r <;> rfl
@[simp] theorem State.setReg_outcome (s : State) (r : Reg8) (v : Byte) : (s.setReg r v).outcome = s.outcome := by cases r <;> rfl
@[simp] theorem State.setReg_launch (s : State) (r : Reg8) (v : Byte) : (s.setReg r v).launch = s.launch := by cases r <;> rfl
@[simp] theorem State.setReg_bus (s : State) (r : Reg8) (v : Byte) : (s.setReg r v).bus = s.bus := by cases r <;> rfl
@[simp] theorem State.setReg_ioEvents (s : State) (r : Reg8) (v : Byte) : (s.setReg r v).ioEvents = s.ioEvents := by cases r <;> rfl
@[simp] theorem State.setReg_draws (s : State) (r : Reg8) (v : Byte) : (s.setReg r v).draws = s.draws := by cases r <;> rfl

theorem State.reg_setReg (s : State) (r q : Reg8) (v : Byte) :
    (s.setReg r v).reg q = if q = r then v else s.reg q := by
  cases r <;> cases q <;> rfl

@[simp] theorem State.reg_setReg_self (s : State) (r : Reg8) (v : Byte) : (s.setReg r v).reg r = v := by
  cases r <;> rfl

@[simp] theorem State.reg_writeF (s : State) (r : Reg8) (v : Byte) : (s.writeF v).reg r = s.reg r := by
  cases r <;> rfl

@[simp] theorem State.reg_afterRead (s : State) (r : Reg8) (a : Addr) : (s.afterRead a).reg r = s.reg r := by
  cases r <;> rfl

@[simp] theorem State.reg_writeByte (s : State) (r : Reg8) (a : Addr) (v : Byte) :
    (s.writeByte a v).reg r = s.reg r := by
  cases r <;> rfl

/-! ### setPair and setStackPair -/

@[simp] theorem State.setPair_F (s : State) (rr : Reg16) (v : Addr) : (s.setPair rr v).F = s.F := by cases rr <;> rfl
@[simp] theorem State.setPair_PC (s : State) (rr : Reg16) (v : Addr) : (s.setPair rr v).PC = s.PC := by cases rr <;> rfl
@[simp] theorem State.setPair_mem (s : State) (rr : Reg16) (v : Addr) : (s.setPair rr v).mem = s.mem := by cases rr <;> rfl
@[simp] theorem State.setPair_outcome (s : State) (rr : Reg16) (v : Addr) : (s.setPair rr v).outcome = s.outcome := by cases rr <;> rfl
@[simp] theorem State.setPair_launch (s : State) (rr : Reg16) (v : Addr) : (s.setPair rr v).launch = s.launch := by cases rr <;> rfl
@[simp] theorem State.setPair_bus (s : State) (rr : Reg16) (v : Addr) : (s.setPair rr v).bus = s.bus := by cases rr <;> rfl
@[simp] theorem State.setPair_ioEvents (s : State) (rr : Reg16) (v : Addr) : (s.setPair rr v).ioEvents = s.ioEvents := by cases rr <;> rfl
@[simp] theorem State.setPair_draws (s : State) (rr : Reg16) (v : Addr) : (s.setPair rr v).draws = s.draws := by cases rr <;> rfl
@[simp] theorem State.setStackPair_SP (s : State) (qq : StackReg) (v : Addr) : (s.setStackPair qq v).SP = s.SP := by cases qq <;> rfl
@[simp] theorem State.setStackPair_PC (s : State) (qq : StackReg) (v : Addr) : (s.setStackPair qq v).PC = s.PC := by cases qq <;> rfl
@[simp] theorem State.setStackPair_mem (s : State) (qq : StackReg) (v : Addr) : (s.setStackPair qq v).mem = s.mem := by cases qq <;> rfl
@[simp] theorem State.setStackPair_outcome (s : State) (qq : StackReg) (v : Addr) : (s.setStackPair qq v).outcome = s.outcome := by cases qq <;> rfl
@[simp] theorem State.setStackPair_launch (s : State) (qq : StackReg) (v : Addr) : (s.setStackPair qq v).launch = s.launch := by cases qq <;> rfl
@[simp] theorem State.setStackPair_bus (s : State) (qq : StackReg) (v : Addr) : (s.setStackPair qq v).bus = s.bus := by cases qq <;> rfl
@[simp] theorem State.setStackPair_ioEvents (s : State) (qq : StackReg) (v : Addr) : (s.setStackPair qq v).ioEvents = s.ioEvents := by cases qq <;> rfl
@[simp] theorem State.setStackPair_draws (s : State) (qq : StackReg) (v : Addr) : (s.setStackPair qq v).draws = s.draws := by cases qq <;> rfl

/-! ### The views that no port access changes -/

@[simp] theorem State.afterRead_HL (s : State) (a : Addr) : (s.afterRead a).HL = s.HL := rfl
@[simp] theorem State.writeByte_HL (s : State) (a : Addr) (v : Byte) : (s.writeByte a v).HL = s.HL := rfl
@[simp] theorem State.afterRead_BC (s : State) (a : Addr) : (s.afterRead a).BC = s.BC := rfl
@[simp] theorem State.writeByte_BC (s : State) (a : Addr) (v : Byte) : (s.writeByte a v).BC = s.BC := rfl
@[simp] theorem State.afterRead_DE (s : State) (a : Addr) : (s.afterRead a).DE = s.DE := rfl
@[simp] theorem State.writeByte_DE (s : State) (a : Addr) (v : Byte) : (s.writeByte a v).DE = s.DE := rfl
@[simp] theorem State.afterRead_AF (s : State) (a : Addr) : (s.afterRead a).AF = s.AF := rfl
@[simp] theorem State.writeByte_AF (s : State) (a : Addr) (v : Byte) : (s.writeByte a v).AF = s.AF := rfl
@[simp] theorem State.afterRead_readF (s : State) (a : Addr) : (s.afterRead a).readF = s.readF := rfl
@[simp] theorem State.writeByte_readF (s : State) (a : Addr) (v : Byte) : (s.writeByte a v).readF = s.readF := rfl
@[simp] theorem State.afterRead_flagZ (s : State) (a : Addr) : (s.afterRead a).flagZ = s.flagZ := rfl
@[simp] theorem State.writeByte_flagZ (s : State) (a : Addr) (v : Byte) : (s.writeByte a v).flagZ = s.flagZ := rfl
@[simp] theorem State.afterRead_flagN (s : State) (a : Addr) : (s.afterRead a).flagN = s.flagN := rfl
@[simp] theorem State.writeByte_flagN (s : State) (a : Addr) (v : Byte) : (s.writeByte a v).flagN = s.flagN := rfl
@[simp] theorem State.afterRead_flagH (s : State) (a : Addr) : (s.afterRead a).flagH = s.flagH := rfl
@[simp] theorem State.writeByte_flagH (s : State) (a : Addr) (v : Byte) : (s.writeByte a v).flagH = s.flagH := rfl
@[simp] theorem State.afterRead_flagC (s : State) (a : Addr) : (s.afterRead a).flagC = s.flagC := rfl
@[simp] theorem State.writeByte_flagC (s : State) (a : Addr) (v : Byte) : (s.writeByte a v).flagC = s.flagC := rfl

end Sys2Proof.Machine
end

