-- ==== Sys2Proof/Laws/Ops.lean ====
section
/-! SUPPORT. One lemma per shared operation that says all it can do, as a Frame and the values it leaves, and how frames
compose. Provers cite these instead of unfolding the operations. -/

namespace Sys2Proof.Machine

/-! ## Frames compose -/

theorem State.ioAt_congr {s t : State} (h : t.launch = s.launch) (a : Addr) : t.ioAt a = s.ioAt a := by
  simp [State.ioAt, h]

theorem lastWritten_append (l l' : List Access) (a : Addr) (v : Byte) :
    lastWritten (l ++ l') a v = lastWritten l' a (lastWritten l a v) := by
  induction l generalizing v with
  | nil => rfl
  | cons x l ih => cases x <;> simp [lastWritten, ih]

theorem Frame.refl (s : State) : Frame [] [] s s :=
  ⟨fun _ _ => rfl, fun _ => rfl, by simp, by simp, by simp, rfl, rfl⟩

theorem Frame.trans {r1 r2 : List RegName} {l1 l2 : List Access} {s t u : State}
    (h1 : Frame r1 l1 s t) (h2 : Frame r2 l2 t u) : Frame (r1 ++ r2) (l1 ++ l2) s u where
  regs_kept r hr := by
    rw [List.mem_append, not_or] at hr
    rw [h2.regs_kept r hr.2, h1.regs_kept r hr.1]
  memory a := by rw [h2.memory, h1.memory, lastWritten_append]
  bus := by rw [h2.bus, h1.bus, List.append_assoc]
  events := by
    rw [h2.events, h1.events, List.filter_append, List.append_assoc]
    simp only [State.ioAt_congr h1.launch]
  draws := by
    rw [h2.draws, h1.draws, List.filter_append, List.length_append, Nat.add_assoc]
    simp only [State.ioAt_congr h1.launch]
  launch := h2.launch.trans h1.launch
  outcome := h2.outcome.trans h1.outcome

/-- A frame may name more registers than changed, in any order. -/
theorem Frame.mono {r r' : List RegName} {l l' : List Access} {s t : State} (h : Frame r l s t)
    (hr : ∀ x ∈ r, x ∈ r') (hl : l = l') : Frame r' l' s t := by
  subst hl
  exact ⟨fun x hx => h.regs_kept x fun hx' => hx (hr x hx'), h.memory, h.bus, h.events, h.draws, h.launch, h.outcome⟩

/-! ## Single registers -/

/-- An update of registers alone makes no access. -/
theorem Frame.ofRegs {regs : List RegName} {s t : State} (hr : ∀ r, r ∉ regs → t.value r = s.value r)
    (hm : t.mem = s.mem) (hb : t.bus = s.bus) (he : t.ioEvents = s.ioEvents) (hd : t.draws = s.draws)
    (hl : t.launch = s.launch) (ho : t.outcome = s.outcome) : Frame regs [] s t :=
  ⟨hr, fun a => by simp [State.peek, hm, lastWritten], by simp [hb], by simp [he], by simp [hd], hl, ho⟩

theorem frame_setReg (s : State) (r : Reg8) (v : Byte) : Frame [regName r] [] s (s.setReg r v) :=
  .ofRegs (fun x hx => by cases r <;> cases x <;> first | rfl | simp [regName] at hx) (by simp) (by simp) (by simp)
    (by simp) (by simp) (by simp)

theorem frame_writeF (s : State) (v : Byte) : Frame [.F] [] s (s.writeF v) :=
  .ofRegs (fun x hx => by cases x <;> first | rfl | simp at hx) rfl rfl rfl rfl rfl rfl

theorem frame_setSP (s : State) (v : Addr) : Frame [.SP] [] s { s with SP := v } :=
  .ofRegs (fun x hx => by cases x <;> first | rfl | simp at hx) rfl rfl rfl rfl rfl rfl

theorem frame_goto (s : State) (v : Addr) : Frame [.PC] [] s (s.goto v) :=
  .ofRegs (fun x hx => by cases x <;> first | rfl | simp at hx) rfl rfl rfl rfl rfl rfl

theorem frame_setHL (s : State) (v : Addr) : Frame [.H, .L] [] s (s.setHL v) :=
  .ofRegs (fun x hx => by cases x <;> first | rfl | simp at hx) rfl rfl rfl rfl rfl rfl

theorem frame_setPair (s : State) (rr : Reg16) (v : Addr) : Frame (pairParts rr) [] s (s.setPair rr v) :=
  .ofRegs (fun x hx => by cases rr <;> cases x <;> first | rfl | simp [pairParts] at hx) (by simp) (by simp) (by simp)
    (by simp) (by simp) (by simp)

theorem frame_setStackPair (s : State) (qq : StackReg) (v : Addr) : Frame (stackParts qq) [] s (s.setStackPair qq v) :=
  .ofRegs (fun x hx => by cases qq <;> cases x <;> first | rfl | simp [stackParts] at hx) (by simp) (by simp)
    (by simp) (by simp) (by simp) (by simp)

theorem State.pair_setPair (s : State) (rr : Reg16) (v : Addr) : (s.setPair rr v).pair rr = v := by
  cases rr <;> first | rfl | exact Laws.word16_hi_lo v

/-! ## The port -/

theorem frame_afterRead (s : State) (a : Addr) : Frame [] [.read a (s.portValue a)] s (s.afterRead a) where
  regs_kept r _ := by cases r <;> rfl
  memory _ := rfl
  bus := rfl
  events := by cases h : s.ioAt a <;> simp [State.afterRead, Access.addr, h]
  draws := by cases h : s.ioAt a <;> simp [State.afterRead, Access.addr, Access.isRead, h]
  launch := rfl
  outcome := rfl

theorem frame_writeByte (s : State) (a : Addr) (v : Byte) : Frame [] [.write a v] s (s.writeByte a v) where
  regs_kept r _ := by cases r <;> rfl
  memory b := by
    rw [State.peek_writeByte]
    simp only [lastWritten, eq_comm]
  bus := rfl
  events := by cases h : s.ioAt a <;> simp [State.writeByte, Access.addr, h]
  draws := by simp [State.writeByte, Access.isRead]
  launch := rfl
  outcome := rfl

/-! ## The stack sequencer -/

theorem frame_stackPush (s : State) (v : Addr) :
    Frame [.SP] [.write (s.SP - 1) (hiByte v), .write (s.SP - 2) (loByte v)] s (s.stackPush v) := by
  have h1 := (frame_setSP s (s.SP - 1)).trans (frame_writeByte { s with SP := s.SP - 1 } (s.SP - 1) (hiByte v))
  have h2 := (frame_setSP (s.pushByte (hiByte v)) (s.SP - 2)).trans
    (frame_writeByte { s.pushByte (hiByte v) with SP := s.SP - 2 } (s.SP - 2) (loByte v))
  have e : s.stackPush v = { s.pushByte (hiByte v) with SP := s.SP - 2 }.writeByte (s.SP - 2) (loByte v) := by
    have : s.SP - 1 - 1 = s.SP - 2 := by rw [BitVec.sub_sub]; rfl
    simp only [State.stackPush, State.pushByte, State.writeByte_SP, this]
  rw [e]
  exact (h1.trans h2).mono (by simp) rfl

@[simp] theorem State.stackPush_SP (s : State) (v : Addr) : (s.stackPush v).SP = s.SP - 2 := by
  show s.SP - 1 - 1 = s.SP - 2
  rw [BitVec.sub_sub]; rfl

theorem frame_afterPopByte (s : State) : Frame [.SP] [.read s.SP (s.portValue s.SP)] s s.afterPopByte :=
  ((frame_afterRead s s.SP).trans (frame_setSP (s.afterRead s.SP) (s.SP + 1))).mono (by simp) (by simp)

@[simp] theorem State.afterPop_SP (s : State) : s.afterPop.SP = s.SP + 2 := by
  show s.SP + 1 + 1 = s.SP + 2
  rw [BitVec.add_assoc]; rfl

theorem frame_afterPop (s : State) :
    Frame [.SP] [.read s.SP (s.portValue s.SP), .read (s.SP + 1) ((s.afterRead s.SP).portValue (s.SP + 1))] s
      s.afterPop :=
  ((frame_afterPopByte s).trans (frame_afterPopByte s.afterPopByte)).mono (by simp) rfl

/-! ## Faults and refusals write nothing -/

/-- All that a stop after the accesses `acc` from `s` to `m` leaves, whichever outcome it is marked with. -/
theorem stopsAfter_of_frame {acc : List Access} {s m : State} (h : Frame [] acc s m)
    (hu : { m with bus := s.bus, ioEvents := s.ioEvents, draws := s.draws } = s) (o : RunOutcome) :
    StopsAfter acc o s { m with outcome := o } where
  outcome := rfl
  unwritten := by rw [← h.outcome]; exact hu
  accesses := by rw [← h.outcome]; exact h

theorem settle_next (s t : State) : s.settle (.next t) = t := by
  unfold State.settle
  split <;> rfl

theorem settle_illegalOpcode {s : State} (ho : s.outcome = .running) (op : Byte) :
    s.settle (raise (.illegalOpcode op)) = { s.opcodeRead with outcome := .fault (.illegalOpcode op) } := by
  simp only [State.settle, State.settleAt, raise, ho]

theorem settle_refused {s : State} (ho : s.outcome = .running) (q : Refusal) :
    s.settle (.refused q) = { s.opcodeRead with outcome := .refused q } := by
  simp only [State.settle, State.settleAt, ho]

/-- A run that has ended keeps its state, whatever fault or refusal a step of it answers. -/
theorem settle_ended {s : State} (ho : s.outcome ≠ .running) :
    (∀ f, s.settle (.fault f) = s) ∧ ∀ q, s.settle (.refused q) = s := by
  unfold State.settle
  split
  · exact absurd ‹_› ho
  · exact ⟨fun _ => rfl, fun _ => rfl⟩

theorem stopsAtOpcode_opcodeRead {s : State} {op : Byte} (hp : s.portValue s.PC = op) (o : RunOutcome) :
    StopsAtOpcode op o s { s.opcodeRead with outcome := o } :=
  stopsAfter_of_frame (hp ▸ frame_afterRead s.beginStep s.PC) rfl o

/-- The accesses of a bit handler before its unit: none, or the read of HL. -/
theorem frame_bitOperandRead (s : State) (o : RField) :
    Frame [] (match o with
      | .reg _ => []
      | .atHL => [.read s.HL (s.portValue s.HL)]) s (s.bitOperandRead o) := by
  cases o
  · exact .refl s
  · exact frame_afterRead s s.HL

/-- All that a bit-index fault leaves of the state the handler was called at. -/
theorem stopsAfter_settleBit (s : State) (o : RField) (f : Fault) :
    StopsAfter (match o with
      | .reg _ => []
      | .atHL => [.read s.HL (s.portValue s.HL)]) (.fault f) s (s.settleBit o (raise f)) :=
  stopsAfter_of_frame (frame_bitOperandRead s o) (by cases o <;> rfl) _

end Sys2Proof.Machine
end

