-- ==== Sys2Proof/Laws/Dispatch.lean ====
section
/-! SUPPORT. exec of the rows of each format, by the format's fields: one lemma a format, so that no proof splits exec's 512
arms to reach a meaning; and the step by its cases. -/

namespace Sys2Proof.Machine

/-! ## Loads -/

theorem exec_ldReg (d r : Reg8) (s : State) : exec (Rows.ldReg d r) s = ldRegReg d r s := by
  cases d <;> cases r <;> rfl

theorem exec_ldImm (d : Reg8) (n : Byte) (s : State) : exec (Rows.ldImm d n) s = ldRegImm d n s := by cases d <;> rfl

theorem exec_ldFromHL (d : Reg8) (s : State) : exec (Rows.ldFromHL d) s = ldRegAt d s.HL s := by cases d <;> rfl

theorem exec_ldToHL (r : Reg8) (s : State) : exec (Rows.ldToHL r) s = storeAt s.HL (s.reg r) s := by cases r <;> rfl

theorem exec_ldAInd (p : IndPtr) (s : State) : exec (Rows.ldAInd p) s = ldAInd p s := by cases p <;> rfl

theorem exec_ldIndA (p : IndPtr) (s : State) : exec (Rows.ldIndA p) s = ldIndA p s := by cases p <;> rfl

theorem exec_ldPair (rr : Reg16) (nn : Addr) (s : State) : exec (Rows.ldPair rr nn) s = ldPairImm rr nn s := by
  cases rr <;> rfl

theorem exec_push (qq : StackReg) (s : State) : exec (Rows.push qq) s = push qq s := by cases qq <;> rfl

theorem exec_pop (qq : StackReg) (s : State) : exec (Rows.pop qq) s = pop qq s := by cases qq <;> rfl

/-! ## The ALU -/

theorem exec_aluReg (op : AluOp) (r : Reg8) (s : State) : exec (Rows.aluReg op r) s = aluReg op r s := by
  cases op <;> cases r <;> rfl

theorem exec_aluAtHL (op : AluOp) (s : State) : exec (Rows.aluAtHL op) s = aluAtHL op s := by cases op <;> rfl

theorem exec_aluImm (op : AluOp) (n : Byte) (s : State) : exec (Rows.aluImm op n) s = aluValue op n s := by
  cases op <;> rfl

theorem exec_incReg (r : Reg8) (s : State) : exec (Rows.incReg r) s = incReg r s := by cases r <;> rfl

theorem exec_decReg (r : Reg8) (s : State) : exec (Rows.decReg r) s = decReg r s := by cases r <;> rfl

theorem exec_incPair (rr : Reg16) (s : State) : exec (Rows.incPair rr) s = incPair rr s := by cases rr <;> rfl

theorem exec_decPair (rr : Reg16) (s : State) : exec (Rows.decPair rr) s = decPair rr s := by cases rr <;> rfl

theorem exec_addHL (rr : Reg16) (s : State) : exec (Rows.addHL rr) s = addHL rr s := by cases rr <;> rfl

/-! ## The CB rows -/

theorem exec_rotReg (op : RotOp) (r : Reg8) (s : State) : exec (Rows.rotReg op r) s = rotReg op r s := by
  cases op <;> cases r <;> rfl

theorem exec_rotAtHL (op : RotOp) (s : State) : exec (Rows.rotAtHL op) s = rotAtHL op s := by cases op <;> rfl

theorem exec_testReg (b : Field3) (r : Reg8) (s : State) :
    exec (Rows.testReg b r) s = bitReg .TEST b.toByte r s := by cases b <;> cases r <;> rfl

theorem exec_resetReg (b : Field3) (r : Reg8) (s : State) :
    exec (Rows.resetReg b r) s = bitReg .RESET b.toByte r s := by cases b <;> cases r <;> rfl

theorem exec_setReg (b : Field3) (r : Reg8) (s : State) :
    exec (Rows.setReg b r) s = bitReg .SET b.toByte r s := by cases b <;> cases r <;> rfl

theorem exec_testAtHL (b : Field3) (s : State) : exec (Rows.testAtHL b) s = bitAtHL .TEST b.toByte s := by
  cases b <;> rfl

theorem exec_resetAtHL (b : Field3) (s : State) : exec (Rows.resetAtHL b) s = bitAtHL .RESET b.toByte s := by
  cases b <;> rfl

theorem exec_setAtHL (b : Field3) (s : State) : exec (Rows.setAtHL b) s = bitAtHL .SET b.toByte s := by
  cases b <;> rfl

/-! ## Control -/

theorem exec_jpIf (cc : Cond) (nn : Addr) (s : State) : exec (Rows.jpIf cc nn) s = jumpIf cc nn s := by cases cc <;> rfl

theorem exec_jrIf (cc : Cond) (e : Byte) (s : State) : exec (Rows.jrIf cc e) s = jumpIf cc (relTarget e s) s := by
  cases cc <;> rfl

theorem exec_callIf (cc : Cond) (nn : Addr) (s : State) : exec (Rows.callIf cc nn) s = callIf cc nn s := by
  cases cc <;> rfl

theorem exec_retIf (cc : Cond) (s : State) : exec (Rows.retIf cc) s = retIf cc s := by cases cc <;> rfl

theorem exec_rst (t : Field3) (s : State) : exec (Rows.rst t) s = callTo (rstTarget t) s := by cases t <;> rfl

/-! ## The units -/

/-- F's low nibble stays zero through every write of a flag byte. -/
@[simp] theorem flagByte_masked (z n h c : Bool) : flagByte z n h c &&& 0xF0#8 = flagByte z n h c := by
  cases z <;> cases n <;> cases h <;> cases c <;> decide

theorem writeF_flagByte (s : State) (z n h c : Bool) : (s.writeF (flagByte z n h c)).F = flagByte z n h c :=
  flagByte_masked z n h c

/-- Every 8-bit operation's flags are a flag byte. -/
theorem alu8_flags (op : AluOp) (a b : Byte) (c : Bool) : ∃ z n h k, (alu8 op a b c).flags = flagByte z n h k := by
  cases op <;> exact ⟨_, _, _, _, rfl⟩

theorem field3_le_seven (b : Field3) : b.toByte.toNat ≤ 7 := by cases b <;> decide

/-- The bit unit answers for every field value (spec/44_bit.md R210). -/
theorem bitUnit_ok (kind : BitKind) (i v : Byte) (h : i.toNat ≤ 7) :
    bitUnit kind i v = .ok
      { z := !v.getLsbD i.toNat
        res := match kind with
          | .TEST => v
          | .SET => v ||| (1#8 <<< i.toNat)
          | .RESET => v &&& ~~~(1#8 <<< i.toNat) } := by
  cases kind <;> exact if_neg (show ¬7 < i.toNat by omega)

/-! ## The step -/

theorem step_running (s : State) (ho : s.outcome = .running) (hs : s.launch.stopAddr ≠ some s.PC) :
    step s = exec (fetch s.beginStep).1 (fetch s.beginStep).2 := by
  simp only [step, ho, hs, if_false]

/-- A step that answers a next state came from a running state: it ended the run at STOP_ADDR, or ran what it fetched. -/
theorem step_next_cases {s t : State} (h : step s = .next t) :
    s.outcome = .running ∧
      ((s.launch.stopAddr = some s.PC ∧ t = s.beginStep.markDone) ∨
        (s.launch.stopAddr ≠ some s.PC ∧ exec (fetch s.beginStep).1 (fetch s.beginStep).2 = .next t)) := by
  unfold step at h
  split at h
  · rename_i ho
    refine ⟨ho, ?_⟩
    split at h
    · rename_i hs
      exact .inl ⟨hs, by injection h with h; exact h.symm⟩
    · rename_i hs
      exact .inr ⟨hs, h⟩
  · cases h
  · cases h
  · cases h

theorem decodeInsn_fetch (s : State) :
    ∃ b1 b2, (fetch s).1 = decodeInsn (s.portValue s.PC) b1 b2 := ⟨_, _, rfl⟩

end Sys2Proof.Machine
end

