-- ==== Sys2Proof/Laws/PerInstr.lean ====
section
/-! SUPPORT. The family RoundTrip: for each constructor of Instr, decoding its encoding gives it back. -/

namespace Sys2Proof.Laws.RoundTrip

/-- Decoding the bytes of a well-formed `i`, whatever follows them, gives `i` and what follows. -/
def Statement (i : Instr) : Prop :=
  i.wf = true → ∀ rest : List Byte, decode (encode i ++ rest) = .ok (i, rest)

theorem roundTrip_ill (i : Instr) (h : i.wf = false) : Statement i := fun hw => by simp [h] at hw

theorem roundTrip_fixed (i : Instr) (h : ∀ rest, decode (encode i ++ rest) = .ok (i, rest)) : Statement i :=
  fun _ rest => h rest

/-- For a row of one opcode byte and an imm16, low byte first. -/
theorem roundTrip_imm16 (f : Addr → Instr) (op : Byte) (hop : operandBytes op = 2)
    (henc : ∀ nn, encode (f nn) = [op, loByte nn, hiByte nn])
    (hdec : ∀ b1 b2 : Byte, decodeInsn op b1 b2 = f (word16 b2 b1)) (nn : Addr) : Statement (f nn) :=
  fun _ rest => by
    rw [henc, List.cons_append, List.cons_append, List.cons_append, List.nil_append, decode_three op _ _ rest hop,
      hdec, word16_hi_lo]

theorem ld_B_B : Statement (.ld_B_B) := roundTrip_fixed _ (fun _ => rfl)
theorem ld_B_C : Statement (.ld_B_C) := roundTrip_fixed _ (fun _ => rfl)
theorem ld_B_D : Statement (.ld_B_D) := roundTrip_fixed _ (fun _ => rfl)
theorem ld_B_E : Statement (.ld_B_E) := roundTrip_fixed _ (fun _ => rfl)
theorem ld_B_H : Statement (.ld_B_H) := roundTrip_fixed _ (fun _ => rfl)
theorem ld_B_L : Statement (.ld_B_L) := roundTrip_fixed _ (fun _ => rfl)
theorem ld_B_A : Statement (.ld_B_A) := roundTrip_fixed _ (fun _ => rfl)
theorem ld_C_B : Statement (.ld_C_B) := roundTrip_fixed _ (fun _ => rfl)
theorem ld_C_C : Statement (.ld_C_C) := roundTrip_fixed _ (fun _ => rfl)
theorem ld_C_D : Statement (.ld_C_D) := roundTrip_fixed _ (fun _ => rfl)
theorem ld_C_E : Statement (.ld_C_E) := roundTrip_fixed _ (fun _ => rfl)
theorem ld_C_H : Statement (.ld_C_H) := roundTrip_fixed _ (fun _ => rfl)
theorem ld_C_L : Statement (.ld_C_L) := roundTrip_fixed _ (fun _ => rfl)
theorem ld_C_A : Statement (.ld_C_A) := roundTrip_fixed _ (fun _ => rfl)
theorem ld_D_B : Statement (.ld_D_B) := roundTrip_fixed _ (fun _ => rfl)
theorem ld_D_C : Statement (.ld_D_C) := roundTrip_fixed _ (fun _ => rfl)
theorem ld_D_D : Statement (.ld_D_D) := roundTrip_fixed _ (fun _ => rfl)
theorem ld_D_E : Statement (.ld_D_E) := roundTrip_fixed _ (fun _ => rfl)
theorem ld_D_H : Statement (.ld_D_H) := roundTrip_fixed _ (fun _ => rfl)
theorem ld_D_L : Statement (.ld_D_L) := roundTrip_fixed _ (fun _ => rfl)
theorem ld_D_A : Statement (.ld_D_A) := roundTrip_fixed _ (fun _ => rfl)
theorem ld_E_B : Statement (.ld_E_B) := roundTrip_fixed _ (fun _ => rfl)
theorem ld_E_C : Statement (.ld_E_C) := roundTrip_fixed _ (fun _ => rfl)
theorem ld_E_D : Statement (.ld_E_D) := roundTrip_fixed _ (fun _ => rfl)
theorem ld_E_E : Statement (.ld_E_E) := roundTrip_fixed _ (fun _ => rfl)
theorem ld_E_H : Statement (.ld_E_H) := roundTrip_fixed _ (fun _ => rfl)
theorem ld_E_L : Statement (.ld_E_L) := roundTrip_fixed _ (fun _ => rfl)
theorem ld_E_A : Statement (.ld_E_A) := roundTrip_fixed _ (fun _ => rfl)
theorem ld_H_B : Statement (.ld_H_B) := roundTrip_fixed _ (fun _ => rfl)
theorem ld_H_C : Statement (.ld_H_C) := roundTrip_fixed _ (fun _ => rfl)
theorem ld_H_D : Statement (.ld_H_D) := roundTrip_fixed _ (fun _ => rfl)
theorem ld_H_E : Statement (.ld_H_E) := roundTrip_fixed _ (fun _ => rfl)
theorem ld_H_H : Statement (.ld_H_H) := roundTrip_fixed _ (fun _ => rfl)
theorem ld_H_L : Statement (.ld_H_L) := roundTrip_fixed _ (fun _ => rfl)
theorem ld_H_A : Statement (.ld_H_A) := roundTrip_fixed _ (fun _ => rfl)
theorem ld_L_B : Statement (.ld_L_B) := roundTrip_fixed _ (fun _ => rfl)
theorem ld_L_C : Statement (.ld_L_C) := roundTrip_fixed _ (fun _ => rfl)
theorem ld_L_D : Statement (.ld_L_D) := roundTrip_fixed _ (fun _ => rfl)
theorem ld_L_E : Statement (.ld_L_E) := roundTrip_fixed _ (fun _ => rfl)
theorem ld_L_H : Statement (.ld_L_H) := roundTrip_fixed _ (fun _ => rfl)
theorem ld_L_L : Statement (.ld_L_L) := roundTrip_fixed _ (fun _ => rfl)
theorem ld_L_A : Statement (.ld_L_A) := roundTrip_fixed _ (fun _ => rfl)
theorem ld_A_B : Statement (.ld_A_B) := roundTrip_fixed _ (fun _ => rfl)
theorem ld_A_C : Statement (.ld_A_C) := roundTrip_fixed _ (fun _ => rfl)
theorem ld_A_D : Statement (.ld_A_D) := roundTrip_fixed _ (fun _ => rfl)
theorem ld_A_E : Statement (.ld_A_E) := roundTrip_fixed _ (fun _ => rfl)
theorem ld_A_H : Statement (.ld_A_H) := roundTrip_fixed _ (fun _ => rfl)
theorem ld_A_L : Statement (.ld_A_L) := roundTrip_fixed _ (fun _ => rfl)
theorem ld_A_A : Statement (.ld_A_A) := roundTrip_fixed _ (fun _ => rfl)
theorem ld_B_d8 (n : Byte) : Statement (.ld_B_d8 n) := roundTrip_fixed _ (fun _ => rfl)
theorem ld_C_d8 (n : Byte) : Statement (.ld_C_d8 n) := roundTrip_fixed _ (fun _ => rfl)
theorem ld_D_d8 (n : Byte) : Statement (.ld_D_d8 n) := roundTrip_fixed _ (fun _ => rfl)
theorem ld_E_d8 (n : Byte) : Statement (.ld_E_d8 n) := roundTrip_fixed _ (fun _ => rfl)
theorem ld_H_d8 (n : Byte) : Statement (.ld_H_d8 n) := roundTrip_fixed _ (fun _ => rfl)
theorem ld_L_d8 (n : Byte) : Statement (.ld_L_d8 n) := roundTrip_fixed _ (fun _ => rfl)
theorem ld_A_d8 (n : Byte) : Statement (.ld_A_d8 n) := roundTrip_fixed _ (fun _ => rfl)
theorem ld_B_atHL : Statement (.ld_B_atHL) := roundTrip_fixed _ (fun _ => rfl)
theorem ld_C_atHL : Statement (.ld_C_atHL) := roundTrip_fixed _ (fun _ => rfl)
theorem ld_D_atHL : Statement (.ld_D_atHL) := roundTrip_fixed _ (fun _ => rfl)
theorem ld_E_atHL : Statement (.ld_E_atHL) := roundTrip_fixed _ (fun _ => rfl)
theorem ld_H_atHL : Statement (.ld_H_atHL) := roundTrip_fixed _ (fun _ => rfl)
theorem ld_L_atHL : Statement (.ld_L_atHL) := roundTrip_fixed _ (fun _ => rfl)
theorem ld_A_atHL : Statement (.ld_A_atHL) := roundTrip_fixed _ (fun _ => rfl)
theorem ld_atHL_B : Statement (.ld_atHL_B) := roundTrip_fixed _ (fun _ => rfl)
theorem ld_atHL_C : Statement (.ld_atHL_C) := roundTrip_fixed _ (fun _ => rfl)
theorem ld_atHL_D : Statement (.ld_atHL_D) := roundTrip_fixed _ (fun _ => rfl)
theorem ld_atHL_E : Statement (.ld_atHL_E) := roundTrip_fixed _ (fun _ => rfl)
theorem ld_atHL_H : Statement (.ld_atHL_H) := roundTrip_fixed _ (fun _ => rfl)
theorem ld_atHL_L : Statement (.ld_atHL_L) := roundTrip_fixed _ (fun _ => rfl)
theorem ld_atHL_A : Statement (.ld_atHL_A) := roundTrip_fixed _ (fun _ => rfl)
theorem ld_atHL_d8 (n : Byte) : Statement (.ld_atHL_d8 n) := roundTrip_fixed _ (fun _ => rfl)
theorem ld_A_atBC : Statement (.ld_A_atBC) := roundTrip_fixed _ (fun _ => rfl)
theorem ld_A_atDE : Statement (.ld_A_atDE) := roundTrip_fixed _ (fun _ => rfl)
theorem ld_atBC_A : Statement (.ld_atBC_A) := roundTrip_fixed _ (fun _ => rfl)
theorem ld_atDE_A : Statement (.ld_atDE_A) := roundTrip_fixed _ (fun _ => rfl)
theorem ld_A_a16 (nn : Addr) : Statement (.ld_A_a16 nn) := roundTrip_imm16 .ld_A_a16 0xFA rfl (fun _ => rfl) (fun _ _ => rfl) nn
theorem ld_a16_A (nn : Addr) : Statement (.ld_a16_A nn) := roundTrip_imm16 .ld_a16_A 0xEA rfl (fun _ => rfl) (fun _ _ => rfl) nn
theorem ldh_A_a8 (n : Byte) : Statement (.ldh_A_a8 n) := roundTrip_fixed _ (fun _ => rfl)
theorem ldh_a8_A (n : Byte) : Statement (.ldh_a8_A n) := roundTrip_fixed _ (fun _ => rfl)
theorem ld_A_atC : Statement (.ld_A_atC) := roundTrip_fixed _ (fun _ => rfl)
theorem ld_atC_A : Statement (.ld_atC_A) := roundTrip_fixed _ (fun _ => rfl)
theorem ld_A_atHLinc : Statement (.ld_A_atHLinc) := roundTrip_fixed _ (fun _ => rfl)
theorem ld_A_atHLdec : Statement (.ld_A_atHLdec) := roundTrip_fixed _ (fun _ => rfl)
theorem ld_atHLinc_A : Statement (.ld_atHLinc_A) := roundTrip_fixed _ (fun _ => rfl)
theorem ld_atHLdec_A : Statement (.ld_atHLdec_A) := roundTrip_fixed _ (fun _ => rfl)
theorem ld_BC_d16 (nn : Addr) : Statement (.ld_BC_d16 nn) := roundTrip_imm16 .ld_BC_d16 0x01 rfl (fun _ => rfl) (fun _ _ => rfl) nn
theorem ld_DE_d16 (nn : Addr) : Statement (.ld_DE_d16 nn) := roundTrip_imm16 .ld_DE_d16 0x11 rfl (fun _ => rfl) (fun _ _ => rfl) nn
theorem ld_HL_d16 (nn : Addr) : Statement (.ld_HL_d16 nn) := roundTrip_imm16 .ld_HL_d16 0x21 rfl (fun _ => rfl) (fun _ _ => rfl) nn
theorem ld_SP_d16 (nn : Addr) : Statement (.ld_SP_d16 nn) := roundTrip_imm16 .ld_SP_d16 0x31 rfl (fun _ => rfl) (fun _ _ => rfl) nn
theorem ld_a16_SP (nn : Addr) : Statement (.ld_a16_SP nn) := roundTrip_imm16 .ld_a16_SP 0x08 rfl (fun _ => rfl) (fun _ _ => rfl) nn
theorem ld_SP_HL : Statement (.ld_SP_HL) := roundTrip_fixed _ (fun _ => rfl)
theorem ld_HL_SPe8 (e : Byte) : Statement (.ld_HL_SPe8 e) := roundTrip_fixed _ (fun _ => rfl)
theorem push_BC : Statement (.push_BC) := roundTrip_fixed _ (fun _ => rfl)
theorem push_DE : Statement (.push_DE) := roundTrip_fixed _ (fun _ => rfl)
theorem push_HL : Statement (.push_HL) := roundTrip_fixed _ (fun _ => rfl)
theorem push_AF : Statement (.push_AF) := roundTrip_fixed _ (fun _ => rfl)
theorem pop_BC : Statement (.pop_BC) := roundTrip_fixed _ (fun _ => rfl)
theorem pop_DE : Statement (.pop_DE) := roundTrip_fixed _ (fun _ => rfl)
theorem pop_HL : Statement (.pop_HL) := roundTrip_fixed _ (fun _ => rfl)
theorem pop_AF : Statement (.pop_AF) := roundTrip_fixed _ (fun _ => rfl)
theorem add_A_B : Statement (.add_A_B) := roundTrip_fixed _ (fun _ => rfl)
theorem add_A_C : Statement (.add_A_C) := roundTrip_fixed _ (fun _ => rfl)
theorem add_A_D : Statement (.add_A_D) := roundTrip_fixed _ (fun _ => rfl)
theorem add_A_E : Statement (.add_A_E) := roundTrip_fixed _ (fun _ => rfl)
theorem add_A_H : Statement (.add_A_H) := roundTrip_fixed _ (fun _ => rfl)
theorem add_A_L : Statement (.add_A_L) := roundTrip_fixed _ (fun _ => rfl)
theorem add_A_A : Statement (.add_A_A) := roundTrip_fixed _ (fun _ => rfl)
theorem add_A_atHL : Statement (.add_A_atHL) := roundTrip_fixed _ (fun _ => rfl)
theorem add_A_d8 (n : Byte) : Statement (.add_A_d8 n) := roundTrip_fixed _ (fun _ => rfl)
theorem adc_A_B : Statement (.adc_A_B) := roundTrip_fixed _ (fun _ => rfl)
theorem adc_A_C : Statement (.adc_A_C) := roundTrip_fixed _ (fun _ => rfl)
theorem adc_A_D : Statement (.adc_A_D) := roundTrip_fixed _ (fun _ => rfl)
theorem adc_A_E : Statement (.adc_A_E) := roundTrip_fixed _ (fun _ => rfl)
theorem adc_A_H : Statement (.adc_A_H) := roundTrip_fixed _ (fun _ => rfl)
theorem adc_A_L : Statement (.adc_A_L) := roundTrip_fixed _ (fun _ => rfl)
theorem adc_A_A : Statement (.adc_A_A) := roundTrip_fixed _ (fun _ => rfl)
theorem adc_A_atHL : Statement (.adc_A_atHL) := roundTrip_fixed _ (fun _ => rfl)
theorem adc_A_d8 (n : Byte) : Statement (.adc_A_d8 n) := roundTrip_fixed _ (fun _ => rfl)
theorem sub_B : Statement (.sub_B) := roundTrip_fixed _ (fun _ => rfl)
theorem sub_C : Statement (.sub_C) := roundTrip_fixed _ (fun _ => rfl)
theorem sub_D : Statement (.sub_D) := roundTrip_fixed _ (fun _ => rfl)
theorem sub_E : Statement (.sub_E) := roundTrip_fixed _ (fun _ => rfl)
theorem sub_H : Statement (.sub_H) := roundTrip_fixed _ (fun _ => rfl)
theorem sub_L : Statement (.sub_L) := roundTrip_fixed _ (fun _ => rfl)
theorem sub_A : Statement (.sub_A) := roundTrip_fixed _ (fun _ => rfl)
theorem sub_atHL : Statement (.sub_atHL) := roundTrip_fixed _ (fun _ => rfl)
theorem sub_d8 (n : Byte) : Statement (.sub_d8 n) := roundTrip_fixed _ (fun _ => rfl)
theorem sbc_A_B : Statement (.sbc_A_B) := roundTrip_fixed _ (fun _ => rfl)
theorem sbc_A_C : Statement (.sbc_A_C) := roundTrip_fixed _ (fun _ => rfl)
theorem sbc_A_D : Statement (.sbc_A_D) := roundTrip_fixed _ (fun _ => rfl)
theorem sbc_A_E : Statement (.sbc_A_E) := roundTrip_fixed _ (fun _ => rfl)
theorem sbc_A_H : Statement (.sbc_A_H) := roundTrip_fixed _ (fun _ => rfl)
theorem sbc_A_L : Statement (.sbc_A_L) := roundTrip_fixed _ (fun _ => rfl)
theorem sbc_A_A : Statement (.sbc_A_A) := roundTrip_fixed _ (fun _ => rfl)
theorem sbc_A_atHL : Statement (.sbc_A_atHL) := roundTrip_fixed _ (fun _ => rfl)
theorem sbc_A_d8 (n : Byte) : Statement (.sbc_A_d8 n) := roundTrip_fixed _ (fun _ => rfl)
theorem and_B : Statement (.and_B) := roundTrip_fixed _ (fun _ => rfl)
theorem and_C : Statement (.and_C) := roundTrip_fixed _ (fun _ => rfl)
theorem and_D : Statement (.and_D) := roundTrip_fixed _ (fun _ => rfl)
theorem and_E : Statement (.and_E) := roundTrip_fixed _ (fun _ => rfl)
theorem and_H : Statement (.and_H) := roundTrip_fixed _ (fun _ => rfl)
theorem and_L : Statement (.and_L) := roundTrip_fixed _ (fun _ => rfl)
theorem and_A : Statement (.and_A) := roundTrip_fixed _ (fun _ => rfl)
theorem and_atHL : Statement (.and_atHL) := roundTrip_fixed _ (fun _ => rfl)
theorem and_d8 (n : Byte) : Statement (.and_d8 n) := roundTrip_fixed _ (fun _ => rfl)
theorem xor_B : Statement (.xor_B) := roundTrip_fixed _ (fun _ => rfl)
theorem xor_C : Statement (.xor_C) := roundTrip_fixed _ (fun _ => rfl)
theorem xor_D : Statement (.xor_D) := roundTrip_fixed _ (fun _ => rfl)
theorem xor_E : Statement (.xor_E) := roundTrip_fixed _ (fun _ => rfl)
theorem xor_H : Statement (.xor_H) := roundTrip_fixed _ (fun _ => rfl)
theorem xor_L : Statement (.xor_L) := roundTrip_fixed _ (fun _ => rfl)
theorem xor_A : Statement (.xor_A) := roundTrip_fixed _ (fun _ => rfl)
theorem xor_atHL : Statement (.xor_atHL) := roundTrip_fixed _ (fun _ => rfl)
theorem xor_d8 (n : Byte) : Statement (.xor_d8 n) := roundTrip_fixed _ (fun _ => rfl)
theorem or_B : Statement (.or_B) := roundTrip_fixed _ (fun _ => rfl)
theorem or_C : Statement (.or_C) := roundTrip_fixed _ (fun _ => rfl)
theorem or_D : Statement (.or_D) := roundTrip_fixed _ (fun _ => rfl)
theorem or_E : Statement (.or_E) := roundTrip_fixed _ (fun _ => rfl)
theorem or_H : Statement (.or_H) := roundTrip_fixed _ (fun _ => rfl)
theorem or_L : Statement (.or_L) := roundTrip_fixed _ (fun _ => rfl)
theorem or_A : Statement (.or_A) := roundTrip_fixed _ (fun _ => rfl)
theorem or_atHL : Statement (.or_atHL) := roundTrip_fixed _ (fun _ => rfl)
theorem or_d8 (n : Byte) : Statement (.or_d8 n) := roundTrip_fixed _ (fun _ => rfl)
theorem cp_B : Statement (.cp_B) := roundTrip_fixed _ (fun _ => rfl)
theorem cp_C : Statement (.cp_C) := roundTrip_fixed _ (fun _ => rfl)
theorem cp_D : Statement (.cp_D) := roundTrip_fixed _ (fun _ => rfl)
theorem cp_E : Statement (.cp_E) := roundTrip_fixed _ (fun _ => rfl)
theorem cp_H : Statement (.cp_H) := roundTrip_fixed _ (fun _ => rfl)
theorem cp_L : Statement (.cp_L) := roundTrip_fixed _ (fun _ => rfl)
theorem cp_A : Statement (.cp_A) := roundTrip_fixed _ (fun _ => rfl)
theorem cp_atHL : Statement (.cp_atHL) := roundTrip_fixed _ (fun _ => rfl)
theorem cp_d8 (n : Byte) : Statement (.cp_d8 n) := roundTrip_fixed _ (fun _ => rfl)
theorem inc_B : Statement (.inc_B) := roundTrip_fixed _ (fun _ => rfl)
theorem inc_C : Statement (.inc_C) := roundTrip_fixed _ (fun _ => rfl)
theorem inc_D : Statement (.inc_D) := roundTrip_fixed _ (fun _ => rfl)
theorem inc_E : Statement (.inc_E) := roundTrip_fixed _ (fun _ => rfl)
theorem inc_H : Statement (.inc_H) := roundTrip_fixed _ (fun _ => rfl)
theorem inc_L : Statement (.inc_L) := roundTrip_fixed _ (fun _ => rfl)
theorem inc_A : Statement (.inc_A) := roundTrip_fixed _ (fun _ => rfl)
theorem inc_atHL : Statement (.inc_atHL) := roundTrip_fixed _ (fun _ => rfl)
theorem dec_B : Statement (.dec_B) := roundTrip_fixed _ (fun _ => rfl)
theorem dec_C : Statement (.dec_C) := roundTrip_fixed _ (fun _ => rfl)
theorem dec_D : Statement (.dec_D) := roundTrip_fixed _ (fun _ => rfl)
theorem dec_E : Statement (.dec_E) := roundTrip_fixed _ (fun _ => rfl)
theorem dec_H : Statement (.dec_H) := roundTrip_fixed _ (fun _ => rfl)
theorem dec_L : Statement (.dec_L) := roundTrip_fixed _ (fun _ => rfl)
theorem dec_A : Statement (.dec_A) := roundTrip_fixed _ (fun _ => rfl)
theorem dec_atHL : Statement (.dec_atHL) := roundTrip_fixed _ (fun _ => rfl)
theorem add_HL_BC : Statement (.add_HL_BC) := roundTrip_fixed _ (fun _ => rfl)
theorem add_HL_DE : Statement (.add_HL_DE) := roundTrip_fixed _ (fun _ => rfl)
theorem add_HL_HL : Statement (.add_HL_HL) := roundTrip_fixed _ (fun _ => rfl)
theorem add_HL_SP : Statement (.add_HL_SP) := roundTrip_fixed _ (fun _ => rfl)
theorem inc_BC : Statement (.inc_BC) := roundTrip_fixed _ (fun _ => rfl)
theorem inc_DE : Statement (.inc_DE) := roundTrip_fixed _ (fun _ => rfl)
theorem inc_HL : Statement (.inc_HL) := roundTrip_fixed _ (fun _ => rfl)
theorem inc_SP : Statement (.inc_SP) := roundTrip_fixed _ (fun _ => rfl)
theorem add_SP_e8 (e : Byte) : Statement (.add_SP_e8 e) := roundTrip_fixed _ (fun _ => rfl)
theorem dec_BC : Statement (.dec_BC) := roundTrip_fixed _ (fun _ => rfl)
theorem dec_DE : Statement (.dec_DE) := roundTrip_fixed _ (fun _ => rfl)
theorem dec_HL : Statement (.dec_HL) := roundTrip_fixed _ (fun _ => rfl)
theorem dec_SP : Statement (.dec_SP) := roundTrip_fixed _ (fun _ => rfl)
theorem jp_a16 (nn : Addr) : Statement (.jp_a16 nn) := roundTrip_imm16 .jp_a16 0xC3 rfl (fun _ => rfl) (fun _ _ => rfl) nn
theorem jp_NZ_a16 (nn : Addr) : Statement (.jp_NZ_a16 nn) := roundTrip_imm16 .jp_NZ_a16 0xC2 rfl (fun _ => rfl) (fun _ _ => rfl) nn
theorem jp_Z_a16 (nn : Addr) : Statement (.jp_Z_a16 nn) := roundTrip_imm16 .jp_Z_a16 0xCA rfl (fun _ => rfl) (fun _ _ => rfl) nn
theorem jp_NC_a16 (nn : Addr) : Statement (.jp_NC_a16 nn) := roundTrip_imm16 .jp_NC_a16 0xD2 rfl (fun _ => rfl) (fun _ _ => rfl) nn
theorem jp_C_a16 (nn : Addr) : Statement (.jp_C_a16 nn) := roundTrip_imm16 .jp_C_a16 0xDA rfl (fun _ => rfl) (fun _ _ => rfl) nn
theorem jp_HL : Statement (.jp_HL) := roundTrip_fixed _ (fun _ => rfl)
theorem jr_e8 (e : Byte) : Statement (.jr_e8 e) := roundTrip_fixed _ (fun _ => rfl)
theorem jr_NZ_e8 (e : Byte) : Statement (.jr_NZ_e8 e) := roundTrip_fixed _ (fun _ => rfl)
theorem jr_Z_e8 (e : Byte) : Statement (.jr_Z_e8 e) := roundTrip_fixed _ (fun _ => rfl)
theorem jr_NC_e8 (e : Byte) : Statement (.jr_NC_e8 e) := roundTrip_fixed _ (fun _ => rfl)
theorem jr_C_e8 (e : Byte) : Statement (.jr_C_e8 e) := roundTrip_fixed _ (fun _ => rfl)
theorem call_a16 (nn : Addr) : Statement (.call_a16 nn) := roundTrip_imm16 .call_a16 0xCD rfl (fun _ => rfl) (fun _ _ => rfl) nn
theorem call_NZ_a16 (nn : Addr) : Statement (.call_NZ_a16 nn) := roundTrip_imm16 .call_NZ_a16 0xC4 rfl (fun _ => rfl) (fun _ _ => rfl) nn
theorem call_Z_a16 (nn : Addr) : Statement (.call_Z_a16 nn) := roundTrip_imm16 .call_Z_a16 0xCC rfl (fun _ => rfl) (fun _ _ => rfl) nn
theorem call_NC_a16 (nn : Addr) : Statement (.call_NC_a16 nn) := roundTrip_imm16 .call_NC_a16 0xD4 rfl (fun _ => rfl) (fun _ _ => rfl) nn
theorem call_C_a16 (nn : Addr) : Statement (.call_C_a16 nn) := roundTrip_imm16 .call_C_a16 0xDC rfl (fun _ => rfl) (fun _ _ => rfl) nn
theorem ret : Statement (.ret) := roundTrip_fixed _ (fun _ => rfl)
theorem ret_NZ : Statement (.ret_NZ) := roundTrip_fixed _ (fun _ => rfl)
theorem ret_Z : Statement (.ret_Z) := roundTrip_fixed _ (fun _ => rfl)
theorem ret_NC : Statement (.ret_NC) := roundTrip_fixed _ (fun _ => rfl)
theorem ret_C : Statement (.ret_C) := roundTrip_fixed _ (fun _ => rfl)
theorem rst_00h : Statement (.rst_00h) := roundTrip_fixed _ (fun _ => rfl)
theorem rst_08h : Statement (.rst_08h) := roundTrip_fixed _ (fun _ => rfl)
theorem rst_10h : Statement (.rst_10h) := roundTrip_fixed _ (fun _ => rfl)
theorem rst_18h : Statement (.rst_18h) := roundTrip_fixed _ (fun _ => rfl)
theorem rst_20h : Statement (.rst_20h) := roundTrip_fixed _ (fun _ => rfl)
theorem rst_28h : Statement (.rst_28h) := roundTrip_fixed _ (fun _ => rfl)
theorem rst_30h : Statement (.rst_30h) := roundTrip_fixed _ (fun _ => rfl)
theorem rst_38h : Statement (.rst_38h) := roundTrip_fixed _ (fun _ => rfl)
theorem prefix_CB (cb : Byte) : Statement (.prefix_CB cb) := roundTrip_ill _ rfl
theorem swap_B : Statement (.swap_B) := roundTrip_fixed _ (fun _ => rfl)
theorem swap_C : Statement (.swap_C) := roundTrip_fixed _ (fun _ => rfl)
theorem swap_D : Statement (.swap_D) := roundTrip_fixed _ (fun _ => rfl)
theorem swap_E : Statement (.swap_E) := roundTrip_fixed _ (fun _ => rfl)
theorem swap_H : Statement (.swap_H) := roundTrip_fixed _ (fun _ => rfl)
theorem swap_L : Statement (.swap_L) := roundTrip_fixed _ (fun _ => rfl)
theorem swap_A : Statement (.swap_A) := roundTrip_fixed _ (fun _ => rfl)
theorem daa : Statement (.daa) := roundTrip_fixed _ (fun _ => rfl)
theorem cpl : Statement (.cpl) := roundTrip_fixed _ (fun _ => rfl)
theorem ccf : Statement (.ccf) := roundTrip_fixed _ (fun _ => rfl)
theorem scf : Statement (.scf) := roundTrip_fixed _ (fun _ => rfl)
theorem swap_atHL : Statement (.swap_atHL) := roundTrip_fixed _ (fun _ => rfl)
theorem nop : Statement (.nop) := roundTrip_fixed _ (fun _ => rfl)
theorem halt : Statement (.halt) := roundTrip_fixed _ (fun _ => rfl)
theorem stop : Statement (.stop) := roundTrip_fixed _ (fun _ => rfl)
theorem di : Statement (.di) := roundTrip_fixed _ (fun _ => rfl)
theorem ei : Statement (.ei) := roundTrip_fixed _ (fun _ => rfl)
theorem reti : Statement (.reti) := roundTrip_fixed _ (fun _ => rfl)
theorem illegal_D3 : Statement (.illegal_D3) := roundTrip_fixed _ (fun _ => rfl)
theorem illegal_DB : Statement (.illegal_DB) := roundTrip_fixed _ (fun _ => rfl)
theorem illegal_DD : Statement (.illegal_DD) := roundTrip_fixed _ (fun _ => rfl)
theorem illegal_E3 : Statement (.illegal_E3) := roundTrip_fixed _ (fun _ => rfl)
theorem illegal_E4 : Statement (.illegal_E4) := roundTrip_fixed _ (fun _ => rfl)
theorem illegal_EB : Statement (.illegal_EB) := roundTrip_fixed _ (fun _ => rfl)
theorem illegal_EC : Statement (.illegal_EC) := roundTrip_fixed _ (fun _ => rfl)
theorem illegal_ED : Statement (.illegal_ED) := roundTrip_fixed _ (fun _ => rfl)
theorem illegal_F4 : Statement (.illegal_F4) := roundTrip_fixed _ (fun _ => rfl)
theorem illegal_FC : Statement (.illegal_FC) := roundTrip_fixed _ (fun _ => rfl)
theorem illegal_FD : Statement (.illegal_FD) := roundTrip_fixed _ (fun _ => rfl)
theorem rlca : Statement (.rlca) := roundTrip_fixed _ (fun _ => rfl)
theorem rrca : Statement (.rrca) := roundTrip_fixed _ (fun _ => rfl)
theorem rla : Statement (.rla) := roundTrip_fixed _ (fun _ => rfl)
theorem rra : Statement (.rra) := roundTrip_fixed _ (fun _ => rfl)
theorem rlc_B : Statement (.rlc_B) := roundTrip_fixed _ (fun _ => rfl)
theorem rlc_C : Statement (.rlc_C) := roundTrip_fixed _ (fun _ => rfl)
theorem rlc_D : Statement (.rlc_D) := roundTrip_fixed _ (fun _ => rfl)
theorem rlc_E : Statement (.rlc_E) := roundTrip_fixed _ (fun _ => rfl)
theorem rlc_H : Statement (.rlc_H) := roundTrip_fixed _ (fun _ => rfl)
theorem rlc_L : Statement (.rlc_L) := roundTrip_fixed _ (fun _ => rfl)
theorem rlc_A : Statement (.rlc_A) := roundTrip_fixed _ (fun _ => rfl)
theorem rlc_atHL : Statement (.rlc_atHL) := roundTrip_fixed _ (fun _ => rfl)
theorem rrc_B : Statement (.rrc_B) := roundTrip_fixed _ (fun _ => rfl)
theorem rrc_C : Statement (.rrc_C) := roundTrip_fixed _ (fun _ => rfl)
theorem rrc_D : Statement (.rrc_D) := roundTrip_fixed _ (fun _ => rfl)
theorem rrc_E : Statement (.rrc_E) := roundTrip_fixed _ (fun _ => rfl)
theorem rrc_H : Statement (.rrc_H) := roundTrip_fixed _ (fun _ => rfl)
theorem rrc_L : Statement (.rrc_L) := roundTrip_fixed _ (fun _ => rfl)
theorem rrc_A : Statement (.rrc_A) := roundTrip_fixed _ (fun _ => rfl)
theorem rrc_atHL : Statement (.rrc_atHL) := roundTrip_fixed _ (fun _ => rfl)
theorem rl_B : Statement (.rl_B) := roundTrip_fixed _ (fun _ => rfl)
theorem rl_C : Statement (.rl_C) := roundTrip_fixed _ (fun _ => rfl)
theorem rl_D : Statement (.rl_D) := roundTrip_fixed _ (fun _ => rfl)
theorem rl_E : Statement (.rl_E) := roundTrip_fixed _ (fun _ => rfl)
theorem rl_H : Statement (.rl_H) := roundTrip_fixed _ (fun _ => rfl)
theorem rl_L : Statement (.rl_L) := roundTrip_fixed _ (fun _ => rfl)
theorem rl_A : Statement (.rl_A) := roundTrip_fixed _ (fun _ => rfl)
theorem rl_atHL : Statement (.rl_atHL) := roundTrip_fixed _ (fun _ => rfl)
theorem rr_B : Statement (.rr_B) := roundTrip_fixed _ (fun _ => rfl)
theorem rr_C : Statement (.rr_C) := roundTrip_fixed _ (fun _ => rfl)
theorem rr_D : Statement (.rr_D) := roundTrip_fixed _ (fun _ => rfl)
theorem rr_E : Statement (.rr_E) := roundTrip_fixed _ (fun _ => rfl)
theorem rr_H : Statement (.rr_H) := roundTrip_fixed _ (fun _ => rfl)
theorem rr_L : Statement (.rr_L) := roundTrip_fixed _ (fun _ => rfl)
theorem rr_A : Statement (.rr_A) := roundTrip_fixed _ (fun _ => rfl)
theorem rr_atHL : Statement (.rr_atHL) := roundTrip_fixed _ (fun _ => rfl)
theorem sla_B : Statement (.sla_B) := roundTrip_fixed _ (fun _ => rfl)
theorem sla_C : Statement (.sla_C) := roundTrip_fixed _ (fun _ => rfl)
theorem sla_D : Statement (.sla_D) := roundTrip_fixed _ (fun _ => rfl)
theorem sla_E : Statement (.sla_E) := roundTrip_fixed _ (fun _ => rfl)
theorem sla_H : Statement (.sla_H) := roundTrip_fixed _ (fun _ => rfl)
theorem sla_L : Statement (.sla_L) := roundTrip_fixed _ (fun _ => rfl)
theorem sla_A : Statement (.sla_A) := roundTrip_fixed _ (fun _ => rfl)
theorem sla_atHL : Statement (.sla_atHL) := roundTrip_fixed _ (fun _ => rfl)
theorem sra_B : Statement (.sra_B) := roundTrip_fixed _ (fun _ => rfl)
theorem sra_C : Statement (.sra_C) := roundTrip_fixed _ (fun _ => rfl)
theorem sra_D : Statement (.sra_D) := roundTrip_fixed _ (fun _ => rfl)
theorem sra_E : Statement (.sra_E) := roundTrip_fixed _ (fun _ => rfl)
theorem sra_H : Statement (.sra_H) := roundTrip_fixed _ (fun _ => rfl)
theorem sra_L : Statement (.sra_L) := roundTrip_fixed _ (fun _ => rfl)
theorem sra_A : Statement (.sra_A) := roundTrip_fixed _ (fun _ => rfl)
theorem sra_atHL : Statement (.sra_atHL) := roundTrip_fixed _ (fun _ => rfl)
theorem srl_B : Statement (.srl_B) := roundTrip_fixed _ (fun _ => rfl)
theorem srl_C : Statement (.srl_C) := roundTrip_fixed _ (fun _ => rfl)
theorem srl_D : Statement (.srl_D) := roundTrip_fixed _ (fun _ => rfl)
theorem srl_E : Statement (.srl_E) := roundTrip_fixed _ (fun _ => rfl)
theorem srl_H : Statement (.srl_H) := roundTrip_fixed _ (fun _ => rfl)
theorem srl_L : Statement (.srl_L) := roundTrip_fixed _ (fun _ => rfl)
theorem srl_A : Statement (.srl_A) := roundTrip_fixed _ (fun _ => rfl)
theorem srl_atHL : Statement (.srl_atHL) := roundTrip_fixed _ (fun _ => rfl)
theorem bit_0_B : Statement (.bit_0_B) := roundTrip_fixed _ (fun _ => rfl)
theorem bit_0_C : Statement (.bit_0_C) := roundTrip_fixed _ (fun _ => rfl)
theorem bit_0_D : Statement (.bit_0_D) := roundTrip_fixed _ (fun _ => rfl)
theorem bit_0_E : Statement (.bit_0_E) := roundTrip_fixed _ (fun _ => rfl)
theorem bit_0_H : Statement (.bit_0_H) := roundTrip_fixed _ (fun _ => rfl)
theorem bit_0_L : Statement (.bit_0_L) := roundTrip_fixed _ (fun _ => rfl)
theorem bit_0_A : Statement (.bit_0_A) := roundTrip_fixed _ (fun _ => rfl)
theorem bit_1_B : Statement (.bit_1_B) := roundTrip_fixed _ (fun _ => rfl)
theorem bit_1_C : Statement (.bit_1_C) := roundTrip_fixed _ (fun _ => rfl)
theorem bit_1_D : Statement (.bit_1_D) := roundTrip_fixed _ (fun _ => rfl)
theorem bit_1_E : Statement (.bit_1_E) := roundTrip_fixed _ (fun _ => rfl)
theorem bit_1_H : Statement (.bit_1_H) := roundTrip_fixed _ (fun _ => rfl)
theorem bit_1_L : Statement (.bit_1_L) := roundTrip_fixed _ (fun _ => rfl)
theorem bit_1_A : Statement (.bit_1_A) := roundTrip_fixed _ (fun _ => rfl)
theorem bit_2_B : Statement (.bit_2_B) := roundTrip_fixed _ (fun _ => rfl)
theorem bit_2_C : Statement (.bit_2_C) := roundTrip_fixed _ (fun _ => rfl)
theorem bit_2_D : Statement (.bit_2_D) := roundTrip_fixed _ (fun _ => rfl)
theorem bit_2_E : Statement (.bit_2_E) := roundTrip_fixed _ (fun _ => rfl)
theorem bit_2_H : Statement (.bit_2_H) := roundTrip_fixed _ (fun _ => rfl)
theorem bit_2_L : Statement (.bit_2_L) := roundTrip_fixed _ (fun _ => rfl)
theorem bit_2_A : Statement (.bit_2_A) := roundTrip_fixed _ (fun _ => rfl)
theorem bit_3_B : Statement (.bit_3_B) := roundTrip_fixed _ (fun _ => rfl)
theorem bit_3_C : Statement (.bit_3_C) := roundTrip_fixed _ (fun _ => rfl)
theorem bit_3_D : Statement (.bit_3_D) := roundTrip_fixed _ (fun _ => rfl)
theorem bit_3_E : Statement (.bit_3_E) := roundTrip_fixed _ (fun _ => rfl)
theorem bit_3_H : Statement (.bit_3_H) := roundTrip_fixed _ (fun _ => rfl)
theorem bit_3_L : Statement (.bit_3_L) := roundTrip_fixed _ (fun _ => rfl)
theorem bit_3_A : Statement (.bit_3_A) := roundTrip_fixed _ (fun _ => rfl)
theorem bit_4_B : Statement (.bit_4_B) := roundTrip_fixed _ (fun _ => rfl)
theorem bit_4_C : Statement (.bit_4_C) := roundTrip_fixed _ (fun _ => rfl)
theorem bit_4_D : Statement (.bit_4_D) := roundTrip_fixed _ (fun _ => rfl)
theorem bit_4_E : Statement (.bit_4_E) := roundTrip_fixed _ (fun _ => rfl)
theorem bit_4_H : Statement (.bit_4_H) := roundTrip_fixed _ (fun _ => rfl)
theorem bit_4_L : Statement (.bit_4_L) := roundTrip_fixed _ (fun _ => rfl)
theorem bit_4_A : Statement (.bit_4_A) := roundTrip_fixed _ (fun _ => rfl)
theorem bit_5_B : Statement (.bit_5_B) := roundTrip_fixed _ (fun _ => rfl)
theorem bit_5_C : Statement (.bit_5_C) := roundTrip_fixed _ (fun _ => rfl)
theorem bit_5_D : Statement (.bit_5_D) := roundTrip_fixed _ (fun _ => rfl)
theorem bit_5_E : Statement (.bit_5_E) := roundTrip_fixed _ (fun _ => rfl)
theorem bit_5_H : Statement (.bit_5_H) := roundTrip_fixed _ (fun _ => rfl)
theorem bit_5_L : Statement (.bit_5_L) := roundTrip_fixed _ (fun _ => rfl)
theorem bit_5_A : Statement (.bit_5_A) := roundTrip_fixed _ (fun _ => rfl)
theorem bit_6_B : Statement (.bit_6_B) := roundTrip_fixed _ (fun _ => rfl)
theorem bit_6_C : Statement (.bit_6_C) := roundTrip_fixed _ (fun _ => rfl)
theorem bit_6_D : Statement (.bit_6_D) := roundTrip_fixed _ (fun _ => rfl)
theorem bit_6_E : Statement (.bit_6_E) := roundTrip_fixed _ (fun _ => rfl)
theorem bit_6_H : Statement (.bit_6_H) := roundTrip_fixed _ (fun _ => rfl)
theorem bit_6_L : Statement (.bit_6_L) := roundTrip_fixed _ (fun _ => rfl)
theorem bit_6_A : Statement (.bit_6_A) := roundTrip_fixed _ (fun _ => rfl)
theorem bit_7_B : Statement (.bit_7_B) := roundTrip_fixed _ (fun _ => rfl)
theorem bit_7_C : Statement (.bit_7_C) := roundTrip_fixed _ (fun _ => rfl)
theorem bit_7_D : Statement (.bit_7_D) := roundTrip_fixed _ (fun _ => rfl)
theorem bit_7_E : Statement (.bit_7_E) := roundTrip_fixed _ (fun _ => rfl)
theorem bit_7_H : Statement (.bit_7_H) := roundTrip_fixed _ (fun _ => rfl)
theorem bit_7_L : Statement (.bit_7_L) := roundTrip_fixed _ (fun _ => rfl)
theorem bit_7_A : Statement (.bit_7_A) := roundTrip_fixed _ (fun _ => rfl)
theorem bit_0_atHL : Statement (.bit_0_atHL) := roundTrip_fixed _ (fun _ => rfl)
theorem bit_1_atHL : Statement (.bit_1_atHL) := roundTrip_fixed _ (fun _ => rfl)
theorem bit_2_atHL : Statement (.bit_2_atHL) := roundTrip_fixed _ (fun _ => rfl)
theorem bit_3_atHL : Statement (.bit_3_atHL) := roundTrip_fixed _ (fun _ => rfl)
theorem bit_4_atHL : Statement (.bit_4_atHL) := roundTrip_fixed _ (fun _ => rfl)
theorem bit_5_atHL : Statement (.bit_5_atHL) := roundTrip_fixed _ (fun _ => rfl)
theorem bit_6_atHL : Statement (.bit_6_atHL) := roundTrip_fixed _ (fun _ => rfl)
theorem bit_7_atHL : Statement (.bit_7_atHL) := roundTrip_fixed _ (fun _ => rfl)
theorem res_0_B : Statement (.res_0_B) := roundTrip_fixed _ (fun _ => rfl)
theorem res_0_C : Statement (.res_0_C) := roundTrip_fixed _ (fun _ => rfl)
theorem res_0_D : Statement (.res_0_D) := roundTrip_fixed _ (fun _ => rfl)
theorem res_0_E : Statement (.res_0_E) := roundTrip_fixed _ (fun _ => rfl)
theorem res_0_H : Statement (.res_0_H) := roundTrip_fixed _ (fun _ => rfl)
theorem res_0_L : Statement (.res_0_L) := roundTrip_fixed _ (fun _ => rfl)
theorem res_0_A : Statement (.res_0_A) := roundTrip_fixed _ (fun _ => rfl)
theorem res_1_B : Statement (.res_1_B) := roundTrip_fixed _ (fun _ => rfl)
theorem res_1_C : Statement (.res_1_C) := roundTrip_fixed _ (fun _ => rfl)
theorem res_1_D : Statement (.res_1_D) := roundTrip_fixed _ (fun _ => rfl)
theorem res_1_E : Statement (.res_1_E) := roundTrip_fixed _ (fun _ => rfl)
theorem res_1_H : Statement (.res_1_H) := roundTrip_fixed _ (fun _ => rfl)
theorem res_1_L : Statement (.res_1_L) := roundTrip_fixed _ (fun _ => rfl)
theorem res_1_A : Statement (.res_1_A) := roundTrip_fixed _ (fun _ => rfl)
theorem res_2_B : Statement (.res_2_B) := roundTrip_fixed _ (fun _ => rfl)
theorem res_2_C : Statement (.res_2_C) := roundTrip_fixed _ (fun _ => rfl)
theorem res_2_D : Statement (.res_2_D) := roundTrip_fixed _ (fun _ => rfl)
theorem res_2_E : Statement (.res_2_E) := roundTrip_fixed _ (fun _ => rfl)
theorem res_2_H : Statement (.res_2_H) := roundTrip_fixed _ (fun _ => rfl)
theorem res_2_L : Statement (.res_2_L) := roundTrip_fixed _ (fun _ => rfl)
theorem res_2_A : Statement (.res_2_A) := roundTrip_fixed _ (fun _ => rfl)
theorem res_3_B : Statement (.res_3_B) := roundTrip_fixed _ (fun _ => rfl)
theorem res_3_C : Statement (.res_3_C) := roundTrip_fixed _ (fun _ => rfl)
theorem res_3_D : Statement (.res_3_D) := roundTrip_fixed _ (fun _ => rfl)
theorem res_3_E : Statement (.res_3_E) := roundTrip_fixed _ (fun _ => rfl)
theorem res_3_H : Statement (.res_3_H) := roundTrip_fixed _ (fun _ => rfl)
theorem res_3_L : Statement (.res_3_L) := roundTrip_fixed _ (fun _ => rfl)
theorem res_3_A : Statement (.res_3_A) := roundTrip_fixed _ (fun _ => rfl)
theorem res_4_B : Statement (.res_4_B) := roundTrip_fixed _ (fun _ => rfl)
theorem res_4_C : Statement (.res_4_C) := roundTrip_fixed _ (fun _ => rfl)
theorem res_4_D : Statement (.res_4_D) := roundTrip_fixed _ (fun _ => rfl)
theorem res_4_E : Statement (.res_4_E) := roundTrip_fixed _ (fun _ => rfl)
theorem res_4_H : Statement (.res_4_H) := roundTrip_fixed _ (fun _ => rfl)
theorem res_4_L : Statement (.res_4_L) := roundTrip_fixed _ (fun _ => rfl)
theorem res_4_A : Statement (.res_4_A) := roundTrip_fixed _ (fun _ => rfl)
theorem res_5_B : Statement (.res_5_B) := roundTrip_fixed _ (fun _ => rfl)
theorem res_5_C : Statement (.res_5_C) := roundTrip_fixed _ (fun _ => rfl)
theorem res_5_D : Statement (.res_5_D) := roundTrip_fixed _ (fun _ => rfl)
theorem res_5_E : Statement (.res_5_E) := roundTrip_fixed _ (fun _ => rfl)
theorem res_5_H : Statement (.res_5_H) := roundTrip_fixed _ (fun _ => rfl)
theorem res_5_L : Statement (.res_5_L) := roundTrip_fixed _ (fun _ => rfl)
theorem res_5_A : Statement (.res_5_A) := roundTrip_fixed _ (fun _ => rfl)
theorem res_6_B : Statement (.res_6_B) := roundTrip_fixed _ (fun _ => rfl)
theorem res_6_C : Statement (.res_6_C) := roundTrip_fixed _ (fun _ => rfl)
theorem res_6_D : Statement (.res_6_D) := roundTrip_fixed _ (fun _ => rfl)
theorem res_6_E : Statement (.res_6_E) := roundTrip_fixed _ (fun _ => rfl)
theorem res_6_H : Statement (.res_6_H) := roundTrip_fixed _ (fun _ => rfl)
theorem res_6_L : Statement (.res_6_L) := roundTrip_fixed _ (fun _ => rfl)
theorem res_6_A : Statement (.res_6_A) := roundTrip_fixed _ (fun _ => rfl)
theorem res_7_B : Statement (.res_7_B) := roundTrip_fixed _ (fun _ => rfl)
theorem res_7_C : Statement (.res_7_C) := roundTrip_fixed _ (fun _ => rfl)
theorem res_7_D : Statement (.res_7_D) := roundTrip_fixed _ (fun _ => rfl)
theorem res_7_E : Statement (.res_7_E) := roundTrip_fixed _ (fun _ => rfl)
theorem res_7_H : Statement (.res_7_H) := roundTrip_fixed _ (fun _ => rfl)
theorem res_7_L : Statement (.res_7_L) := roundTrip_fixed _ (fun _ => rfl)
theorem res_7_A : Statement (.res_7_A) := roundTrip_fixed _ (fun _ => rfl)
theorem res_0_atHL : Statement (.res_0_atHL) := roundTrip_fixed _ (fun _ => rfl)
theorem res_1_atHL : Statement (.res_1_atHL) := roundTrip_fixed _ (fun _ => rfl)
theorem res_2_atHL : Statement (.res_2_atHL) := roundTrip_fixed _ (fun _ => rfl)
theorem res_3_atHL : Statement (.res_3_atHL) := roundTrip_fixed _ (fun _ => rfl)
theorem res_4_atHL : Statement (.res_4_atHL) := roundTrip_fixed _ (fun _ => rfl)
theorem res_5_atHL : Statement (.res_5_atHL) := roundTrip_fixed _ (fun _ => rfl)
theorem res_6_atHL : Statement (.res_6_atHL) := roundTrip_fixed _ (fun _ => rfl)
theorem res_7_atHL : Statement (.res_7_atHL) := roundTrip_fixed _ (fun _ => rfl)
theorem set_0_B : Statement (.set_0_B) := roundTrip_fixed _ (fun _ => rfl)
theorem set_0_C : Statement (.set_0_C) := roundTrip_fixed _ (fun _ => rfl)
theorem set_0_D : Statement (.set_0_D) := roundTrip_fixed _ (fun _ => rfl)
theorem set_0_E : Statement (.set_0_E) := roundTrip_fixed _ (fun _ => rfl)
theorem set_0_H : Statement (.set_0_H) := roundTrip_fixed _ (fun _ => rfl)
theorem set_0_L : Statement (.set_0_L) := roundTrip_fixed _ (fun _ => rfl)
theorem set_0_A : Statement (.set_0_A) := roundTrip_fixed _ (fun _ => rfl)
theorem set_1_B : Statement (.set_1_B) := roundTrip_fixed _ (fun _ => rfl)
theorem set_1_C : Statement (.set_1_C) := roundTrip_fixed _ (fun _ => rfl)
theorem set_1_D : Statement (.set_1_D) := roundTrip_fixed _ (fun _ => rfl)
theorem set_1_E : Statement (.set_1_E) := roundTrip_fixed _ (fun _ => rfl)
theorem set_1_H : Statement (.set_1_H) := roundTrip_fixed _ (fun _ => rfl)
theorem set_1_L : Statement (.set_1_L) := roundTrip_fixed _ (fun _ => rfl)
theorem set_1_A : Statement (.set_1_A) := roundTrip_fixed _ (fun _ => rfl)
theorem set_2_B : Statement (.set_2_B) := roundTrip_fixed _ (fun _ => rfl)
theorem set_2_C : Statement (.set_2_C) := roundTrip_fixed _ (fun _ => rfl)
theorem set_2_D : Statement (.set_2_D) := roundTrip_fixed _ (fun _ => rfl)
theorem set_2_E : Statement (.set_2_E) := roundTrip_fixed _ (fun _ => rfl)
theorem set_2_H : Statement (.set_2_H) := roundTrip_fixed _ (fun _ => rfl)
theorem set_2_L : Statement (.set_2_L) := roundTrip_fixed _ (fun _ => rfl)
theorem set_2_A : Statement (.set_2_A) := roundTrip_fixed _ (fun _ => rfl)
theorem set_3_B : Statement (.set_3_B) := roundTrip_fixed _ (fun _ => rfl)
theorem set_3_C : Statement (.set_3_C) := roundTrip_fixed _ (fun _ => rfl)
theorem set_3_D : Statement (.set_3_D) := roundTrip_fixed _ (fun _ => rfl)
theorem set_3_E : Statement (.set_3_E) := roundTrip_fixed _ (fun _ => rfl)
theorem set_3_H : Statement (.set_3_H) := roundTrip_fixed _ (fun _ => rfl)
theorem set_3_L : Statement (.set_3_L) := roundTrip_fixed _ (fun _ => rfl)
theorem set_3_A : Statement (.set_3_A) := roundTrip_fixed _ (fun _ => rfl)
theorem set_4_B : Statement (.set_4_B) := roundTrip_fixed _ (fun _ => rfl)
theorem set_4_C : Statement (.set_4_C) := roundTrip_fixed _ (fun _ => rfl)
theorem set_4_D : Statement (.set_4_D) := roundTrip_fixed _ (fun _ => rfl)
theorem set_4_E : Statement (.set_4_E) := roundTrip_fixed _ (fun _ => rfl)
theorem set_4_H : Statement (.set_4_H) := roundTrip_fixed _ (fun _ => rfl)
theorem set_4_L : Statement (.set_4_L) := roundTrip_fixed _ (fun _ => rfl)
theorem set_4_A : Statement (.set_4_A) := roundTrip_fixed _ (fun _ => rfl)
theorem set_5_B : Statement (.set_5_B) := roundTrip_fixed _ (fun _ => rfl)
theorem set_5_C : Statement (.set_5_C) := roundTrip_fixed _ (fun _ => rfl)
theorem set_5_D : Statement (.set_5_D) := roundTrip_fixed _ (fun _ => rfl)
theorem set_5_E : Statement (.set_5_E) := roundTrip_fixed _ (fun _ => rfl)
theorem set_5_H : Statement (.set_5_H) := roundTrip_fixed _ (fun _ => rfl)
theorem set_5_L : Statement (.set_5_L) := roundTrip_fixed _ (fun _ => rfl)
theorem set_5_A : Statement (.set_5_A) := roundTrip_fixed _ (fun _ => rfl)
theorem set_6_B : Statement (.set_6_B) := roundTrip_fixed _ (fun _ => rfl)
theorem set_6_C : Statement (.set_6_C) := roundTrip_fixed _ (fun _ => rfl)
theorem set_6_D : Statement (.set_6_D) := roundTrip_fixed _ (fun _ => rfl)
theorem set_6_E : Statement (.set_6_E) := roundTrip_fixed _ (fun _ => rfl)
theorem set_6_H : Statement (.set_6_H) := roundTrip_fixed _ (fun _ => rfl)
theorem set_6_L : Statement (.set_6_L) := roundTrip_fixed _ (fun _ => rfl)
theorem set_6_A : Statement (.set_6_A) := roundTrip_fixed _ (fun _ => rfl)
theorem set_7_B : Statement (.set_7_B) := roundTrip_fixed _ (fun _ => rfl)
theorem set_7_C : Statement (.set_7_C) := roundTrip_fixed _ (fun _ => rfl)
theorem set_7_D : Statement (.set_7_D) := roundTrip_fixed _ (fun _ => rfl)
theorem set_7_E : Statement (.set_7_E) := roundTrip_fixed _ (fun _ => rfl)
theorem set_7_H : Statement (.set_7_H) := roundTrip_fixed _ (fun _ => rfl)
theorem set_7_L : Statement (.set_7_L) := roundTrip_fixed _ (fun _ => rfl)
theorem set_7_A : Statement (.set_7_A) := roundTrip_fixed _ (fun _ => rfl)
theorem set_0_atHL : Statement (.set_0_atHL) := roundTrip_fixed _ (fun _ => rfl)
theorem set_1_atHL : Statement (.set_1_atHL) := roundTrip_fixed _ (fun _ => rfl)
theorem set_2_atHL : Statement (.set_2_atHL) := roundTrip_fixed _ (fun _ => rfl)
theorem set_3_atHL : Statement (.set_3_atHL) := roundTrip_fixed _ (fun _ => rfl)
theorem set_4_atHL : Statement (.set_4_atHL) := roundTrip_fixed _ (fun _ => rfl)
theorem set_5_atHL : Statement (.set_5_atHL) := roundTrip_fixed _ (fun _ => rfl)
theorem set_6_atHL : Statement (.set_6_atHL) := roundTrip_fixed _ (fun _ => rfl)
theorem set_7_atHL : Statement (.set_7_atHL) := roundTrip_fixed _ (fun _ => rfl)

end Sys2Proof.Laws.RoundTrip
end

