-- ==== Sys2Proof/Tests/Slice0.lean ====
section
/-! SUPPORT. The model's own tests: what WellFormed refuses, words written out from the spec's encodings, one step of vectors of
spec/95_test_vectors.md (their values are the spec's; every register and all of memory are compared), and for every statement
with hypotheses a state and operands that meet them. -/

namespace Sys2Proof.Tests

open Sys2Proof.Machine

/-! ## Helpers -/

/-- The start state of the vectors: reset, then registers set through the dispatch port, cells, and the bytes at PC. -/
def start (p : FlagProfile) (sets : List (PortName × Addr)) (cells : List Host.Cell) (bytes : List Byte) : State :=
  let s := State.boot { Launch.default with flagProfile := p } [] sets
  { s with mem := Memory.load (cells.foldl (fun m c => Memory.set m c.1 c.2) []) s.PC bytes }

/-- The ten registers and memory. -/
def view (s : State) : List Addr × List Host.Cell :=
  ([s.value .A, s.value .F, s.value .B, s.value .C, s.value .D, s.value .E, s.value .H, s.value .L, s.value .SP,
    s.value .PC], s.mem)

/-- One step of `s` answers a next state that differs from `s` by PC moved `len` bytes on, then `regs` and `cells`. -/
def steps (s : State) (len : Nat) (regs : List (PortName × Addr)) (cells : List Host.Cell) : Bool :=
  match step s with
  | .next t =>
    let e := regs.foldl (fun s x => s.portSet x.1 x.2) { s with PC := s.PC + BitVec.ofNat 16 len }
    view t == view { e with mem := cells.foldl (fun m c => Memory.set m c.1 c.2) s.mem }
  | _ => false

/-- The state `k` steps lead to, a fault or a refusal settled. -/
def after : Nat → State → State
  | 0, s => s
  | k + 1, s => after k (s.settle (step s))

/-! ## WellFormed: the one ill-formed row, for any CB byte; its bytes are the CB byte's own row -/

theorem test_wf_refuses_prefix : Instr.wf (.prefix_CB 0x11) = false := by decide

theorem test_wf_accepts_cb_row : Instr.wf .rl_C = true := by decide

theorem test_wf_accepts_any_operand : Instr.wf (.ld_B_d8 0xFF) = true ∧ Instr.wf (.jp_a16 0xFFFF) = true := by decide

theorem test_wf_accepts_illegal_row : Instr.wf .illegal_D3 = true := by decide

/-! ## Words written out bit by bit from spec/30_encoding.md R77-R80 -/

/-- LD r,r' is 01 ddd sss; HALT is 01 110 110. -/
theorem test_decode_moves :
    decode [0b01000001] = .ok (.ld_B_C, []) ∧ decode [0b01111110] = .ok (.ld_A_atHL, []) ∧
      decode [0b01110101] = .ok (.ld_atHL_L, []) ∧ decode [0b01110110] = .ok (.halt, []) := by decide

/-- LD r,d8 is 00 ddd 110; LD rr,d16 is 00 rr0 001, low byte first (R66). -/
theorem test_decode_immediates :
    decode [0b00001110, 0x5A] = .ok (.ld_C_d8 0x5A, []) ∧ decode [0b00110110, 0x5A] = .ok (.ld_atHL_d8 0x5A, []) ∧
      decode [0b00110001, 0x34, 0x12] = .ok (.ld_SP_d16 0x1234, []) := by decide

/-- IND is 00 pp k 010; LDH is 111 k 0000. -/
theorem test_decode_pointer_loads :
    decode [0b00000010] = .ok (.ld_atBC_A, []) ∧ decode [0b00101010] = .ok (.ld_A_atHLinc, []) ∧
      decode [0b00111010] = .ok (.ld_A_atHLdec, []) ∧ decode [0b11110000, 0x44] = .ok (.ldh_A_a8 0x44, []) ∧
      decode [0b11100010] = .ok (.ld_atC_A, []) ∧ decode [0b11101010, 0x34, 0x12] = .ok (.ld_a16_A 0x1234, []) := by
  decide

/-- PUSH qq is 11 qq0 101, POP qq 11 qq0 001; qq = 11 is AF. -/
theorem test_decode_stack :
    decode [0b11110101] = .ok (.push_AF, []) ∧ decode [0b11010001] = .ok (.pop_DE, []) := by decide

/-- ALU on a register is 10 aaa sss, on an immediate 11 aaa 110; INC r is 00 ddd 100, DEC r 00 ddd 101. -/
theorem test_decode_alu :
    decode [0b10011100] = .ok (.sbc_A_H, []) ∧ decode [0b10111110] = .ok (.cp_atHL, []) ∧
      decode [0b11101110, 0x0F] = .ok (.xor_d8 0x0F, []) ∧ decode [0b00110100] = .ok (.inc_atHL, []) ∧
      decode [0b00101101] = .ok (.dec_L, []) := by decide

/-- ADD HL,rr is 00 rr1 001, INC rr 00 rr0 011, DEC rr 00 rr1 011; ADD SP,e8 is 0xE8, LD HL,SP+e8 0xF8. -/
theorem test_decode_alu16 :
    decode [0b00101001] = .ok (.add_HL_HL, []) ∧ decode [0b00110011] = .ok (.inc_SP, []) ∧
      decode [0b00011011] = .ok (.dec_DE, []) ∧ decode [0xE8, 0x80] = .ok (.add_SP_e8 0x80, []) ∧
      decode [0xF8, 0x0F] = .ok (.ld_HL_SPe8 0x0F, []) := by decide

/-- The A rotates are 000 yy 111; CB rotates 00 ooo sss after 0xCB, ooo = 110 is SWAP. -/
theorem test_decode_rotates :
    decode [0b00010111] = .ok (.rla, []) ∧ decode [0xCB, 0b00010101] = .ok (.rl_L, []) ∧
      decode [0xCB, 0b00110110] = .ok (.swap_atHL, []) ∧ decode [0xCB, 0b00111000] = .ok (.srl_B, []) := by decide

/-- BIT is 01 bbb sss after 0xCB, RES 10 bbb sss, SET 11 bbb sss. -/
theorem test_decode_bits :
    decode [0xCB, 0b01111100] = .ok (.bit_7_H, []) ∧ decode [0xCB, 0b10000110] = .ok (.res_0_atHL, []) ∧
      decode [0xCB, 0b11011111] = .ok (.set_3_A, []) := by decide

/-- JP cc is 110 cc 010, CALL cc 110 cc 100, RET cc 110 cc 000, JR cc 001 cc 000, RST 11 ttt 111. -/
theorem test_decode_control :
    decode [0b11010010, 0x00, 0x40] = .ok (.jp_NC_a16 0x4000, []) ∧
      decode [0b11001100, 0x00, 0x30] = .ok (.call_Z_a16 0x3000, []) ∧ decode [0b11011000] = .ok (.ret_C, []) ∧
      decode [0b00100000, 0xFC] = .ok (.jr_NZ_e8 0xFC, []) ∧ decode [0b11101111] = .ok (.rst_28h, []) := by decide

/-- DAA, CPL, SCF, CCF are 001 yy 111; STOP is one byte (D32); 0xDD is unassigned (R79). -/
theorem test_decode_misc :
    decode [0b00100111] = .ok (.daa, []) ∧ decode [0b00111111] = .ok (.ccf, []) ∧
      decode [0x10, 0x3C] = .ok (.stop, [0x3C]) ∧ decode [0xDD] = .ok (.illegal_DD, []) := by decide

/-- What is no instruction is refused by name. -/
theorem test_decode_rejects :
    decode [] = .error .empty ∧ decode [0xCB] = .error (.truncated 0xCB) ∧
      decode [0xC3, 0x00] = .error (.truncated 0xC3) := by decide

/-! ## The host's two questions, on words of the table -/

theorem test_table_words :
    decodeTableWord 8 0x41 = some .ld_B_C ∧ decodeTableWord 8 0x3E = some (.ld_A_d8 0) ∧
      decodeTableWord 16 0xCB11 = some .rl_C ∧ decodeTableWord 8 0xCB = some .rlc_B ∧
      decodeTableWord 24 0x1234C3 = some (.jp_a16 0x1234) := by decide

theorem test_fetch_word_ld :
    (after 1 ((State.reset.portSet (.one .C) 0x5A).withFetchWord 8 0x41)).B = 0x5A := by decide

theorem test_fetch_word_cb : (after 1 (State.reset.withFetchWord 16 0xCBC1)).C = 0x01 := by decide

/-- A program placed from reset runs at PC; nothing else of reset changes. -/
theorem test_fetch_word_keeps :
    { State.reset.withFetchWord 8 0x3C with mem := [] } = State.reset := by decide

/-! ## One step of the spec's vectors -/

/-! ### Loads and the stack (spec/95_test_vectors.md L2.1) -/
/-- V1, DOC: LD A,A (same register). -/
theorem test_v1 : steps (start .DOC [(.one .A, 0x5A), (.one .F, 0xF0)] [] [0x7F]) 1
    [(.one .PC, 0x0101)] [] = true := by decide

/-- V2, DOC: LD H,(HL): the pointer is overwritten by the load. -/
theorem test_v2 : steps (start .DOC [(.HL, 0xC000)] [(0xC000, 0x12)] [0x66]) 1
    [(.HL, 0x1200), (.one .H, 0x12), (.one .L, 0x00)] [] = true := by decide

/-- V3, DOC: LD (HL),L writes the low byte of its own address. -/
theorem test_v3 : steps (start .DOC [(.HL, 0xC0AB)] [] [0x75]) 1 [] [(0xC0AB, 0xAB)] = true := by decide

/-- V4, DOC: LD A,(HL+) at HL=0xFFFF wraps HL to 0x0000. -/
theorem test_v4 : steps (start .DOC [(.HL, 0xFFFF)] [(0xFFFF, 0x77)] [0x2A]) 1
    [(.one .A, 0x77), (.HL, 0x0000)] [] = true := by decide

/-- V5, DOC: LD (HL-),A at HL=0x0000 wraps HL to 0xFFFF. -/
theorem test_v5 : steps (start .DOC [(.one .PC, 0x0200), (.HL, 0x0000), (.one .A, 0x99)] [] [0x32]) 1
    [(.HL, 0xFFFF)] [(0x0000, 0x99)] = true := by decide

/-- V6, DOC: LDH A,(0xFF) reads 0xFFFF. -/
theorem test_v6 : steps (start .DOC [] [(0xFFFF, 0x1F)] [0xF0, 0xFF]) 2 [(.one .A, 0x1F)] [] = true := by decide

/-- V7, DOC: LD (C),A with C=0x00 writes 0xFF00. -/
theorem test_v7 : steps (start .DOC [(.one .C, 0x00), (.one .A, 0x3C)] [] [0xE2]) 1
    [] [(0xFF00, 0x3C)] = true := by decide

/-- V8, DOC: LD (a16),SP at a16=0xFFFF wraps the high byte to 0x0000. -/
theorem test_v8 : steps (start .DOC [(.one .PC, 0x0200), (.one .SP, 0xABCD)] [] [0x08, 0xFF, 0xFF]) 3
    [] [(0xFFFF, 0xCD), (0x0000, 0xAB)] = true := by decide

/-- V9, DOC: LD SP,d16. -/
theorem test_v9 : steps (start .DOC [] [] [0x31, 0x34, 0x12]) 3
    [(.one .SP, 0x1234), (.one .PC, 0x0103)] [] = true := by decide

/-- V10, DOC: LD HL,SP+e8 with e8=0x80 (-128). -/
theorem test_v10 : steps (start .DOC [(.one .SP, 0xD000), (.one .F, 0xF0)] [] [0xF8, 0x80]) 2
    [(.HL, 0xCF80), (.one .F, 0x00)] [] = true := by decide

/-- V11, SM83: LD HL,SP+e8 with e8=0x80 (-128). -/
theorem test_v11 : steps (start .SM83 [(.one .SP, 0xD000), (.one .F, 0xF0)] [] [0xF8, 0x80]) 2
    [(.HL, 0xCF80), (.one .F, 0x00)] [] = true := by decide

/-- V12, DOC: LD HL,SP+e8 with a bit-3 and bit-7 carry. -/
theorem test_v12 : steps (start .DOC [(.one .SP, 0x00F1)] [] [0xF8, 0x0F]) 2
    [(.HL, 0x0100), (.one .F, 0x00)] [] = true := by decide

/-- V13, SM83: LD HL,SP+e8 with a bit-3 and bit-7 carry. -/
theorem test_v13 : steps (start .SM83 [(.one .SP, 0x00F1)] [] [0xF8, 0x0F]) 2
    [(.HL, 0x0100), (.one .F, 0x30)] [] = true := by decide

/-- V14, DOC: PUSH AF stores F with its low nibble 0. -/
theorem test_v14 : steps (start .DOC [(.one .SP, 0xD000), (.one .A, 0x12), (.one .F, 0xB0)] [] [0xF5]) 1
    [(.one .SP, 0xCFFE)] [(0xCFFF, 0x12), (0xCFFE, 0xB0)] = true := by decide

/-- V15, DOC: POP AF masks the low nibble of F. -/
theorem test_v15 : steps (start .DOC [(.one .SP, 0xD000)] [(0xD000, 0x5F), (0xD001, 0x3C)] [0xF1]) 1
    [(.one .A, 0x3C), (.one .F, 0x50), (.one .SP, 0xD002)] [] = true := by decide

/-- V16, DOC: PUSH BC at SP=0x0001 wraps. -/
theorem test_v16 : steps (start .DOC [(.one .PC, 0x0200), (.one .SP, 0x0001), (.BC, 0xBEEF)] [] [0xC5]) 1
    [(.one .SP, 0xFFFF)] [(0x0000, 0xBE), (0xFFFF, 0xEF)] = true := by decide

/-- V17, DOC: POP HL at SP=0xFFFF wraps. -/
theorem test_v17 : steps (start .DOC [(.one .PC, 0x0200), (.one .SP, 0xFFFF)] [(0xFFFF, 0x34), (0x0000, 0x12)] [0xE1]) 1
    [(.HL, 0x1234), (.one .SP, 0x0001)] [] = true := by decide

/-! ### The 8-bit ALU, INC and DEC (L2.2) -/
/-- V20, DOC: ADD A,B: half-carry only. -/
theorem test_v20 : steps (start .DOC [(.one .A, 0x0F), (.one .B, 0x01)] [] [0x80]) 1
    [(.one .A, 0x10), (.one .F, 0x20)] [] = true := by decide

/-- V22, DOC: ADD A,B: carry only. -/
theorem test_v22 : steps (start .DOC [(.one .A, 0xF0), (.one .B, 0x20)] [] [0x80]) 1
    [(.one .A, 0x10), (.one .F, 0x10)] [] = true := by decide

/-- V23, DOC: ADC A,B with b=0xFF and C=1 (C1 corner: C=1, H=1). -/
theorem test_v23 : steps (start .DOC [(.one .A, 0x00), (.one .B, 0xFF), (.one .F, 0x10)] [] [0x88]) 1
    [(.one .F, 0xB0)] [] = true := by decide

/-- V24, DOC: ADC A,B with b=0x0F and C=1 (C1 corner: H=1). -/
theorem test_v24 : steps (start .DOC [(.one .A, 0x01), (.one .B, 0x0F), (.one .F, 0x10)] [] [0x88]) 1
    [(.one .A, 0x11), (.one .F, 0x20)] [] = true := by decide

/-- V25, DOC: ADC A,A with C=1. -/
theorem test_v25 : steps (start .DOC [(.one .A, 0x80), (.one .F, 0x10)] [] [0x8F]) 1
    [(.one .A, 0x01)] [] = true := by decide

/-- V26, DOC: ADC A,d8 with C=0 behaves as ADD. -/
theorem test_v26 : steps (start .DOC [(.one .A, 0xFF), (.one .F, 0x00)] [] [0xCE, 0x01]) 2
    [(.one .A, 0x00), (.one .F, 0xB0)] [] = true := by decide

/-- V27, DOC: SUB A (self): result 0. -/
theorem test_v27 : steps (start .DOC [(.one .A, 0x42), (.one .F, 0x30)] [] [0x97]) 1
    [(.one .A, 0x00), (.one .F, 0xC0)] [] = true := by decide

/-- V28, DOC: SUB B: borrow from bit 4 and bit 8. -/
theorem test_v28 : steps (start .DOC [(.one .A, 0x10), (.one .B, 0x20)] [] [0x90]) 1
    [(.one .A, 0xF0), (.one .F, 0x50)] [] = true := by decide

/-- V29, DOC: SBC A,B with b=0xFF and C=1 (C1 corner). -/
theorem test_v29 : steps (start .DOC [(.one .A, 0x00), (.one .B, 0xFF), (.one .F, 0x10)] [] [0x98]) 1
    [(.one .F, 0xF0)] [] = true := by decide

/-- V30, DOC: SBC A,B with b=0x0F and C=1 (C1 corner). -/
theorem test_v30 : steps (start .DOC [(.one .A, 0x10), (.one .B, 0x0F), (.one .F, 0x10)] [] [0x98]) 1
    [(.one .A, 0x00), (.one .F, 0xE0)] [] = true := by decide

/-- V31, DOC: SBC A,A with C=1. -/
theorem test_v31 : steps (start .DOC [(.one .A, 0x55), (.one .F, 0x10)] [] [0x9F]) 1
    [(.one .A, 0xFF), (.one .F, 0x70)] [] = true := by decide

/-- V32, DOC: AND d8: H always 1, C always 0. -/
theorem test_v32 : steps (start .DOC [(.one .A, 0x0F), (.one .F, 0x10)] [] [0xE6, 0xF0]) 2
    [(.one .A, 0x00), (.one .F, 0xA0)] [] = true := by decide

/-- V33, DOC: XOR A (self). -/
theorem test_v33 : steps (start .DOC [(.one .A, 0x9C), (.one .F, 0x70)] [] [0xAF]) 1
    [(.one .A, 0x00), (.one .F, 0x80)] [] = true := by decide

/-- V34, DOC: OR (HL). -/
theorem test_v34 : steps (start .DOC [(.HL, 0xC000), (.one .A, 0x00), (.one .F, 0xF0)] [(0xC000, 0x00)] [0xB6]) 1
    [(.one .F, 0x80)] [] = true := by decide

/-- V35, DOC: CP A (self): A unchanged. -/
theorem test_v35 : steps (start .DOC [(.one .A, 0x7E)] [] [0xBF]) 1 [(.one .F, 0xC0)] [] = true := by decide

/-- V36, DOC: CP d8 greater than A. -/
theorem test_v36 : steps (start .DOC [(.one .A, 0x80)] [] [0xFE, 0x90]) 2 [(.one .F, 0x50)] [] = true := by decide

/-- V37, DOC: INC B: 0x0F to 0x10, C kept at 1. -/
theorem test_v37 : steps (start .DOC [(.one .B, 0x0F), (.one .F, 0x10)] [] [0x04]) 1
    [(.one .B, 0x10), (.one .F, 0x30)] [] = true := by decide

/-- V38, DOC: INC B: 0xFF to 0x00, C kept at 0 (D7). -/
theorem test_v38 : steps (start .DOC [(.one .B, 0xFF), (.one .F, 0x00)] [] [0x04]) 1
    [(.one .B, 0x00), (.one .F, 0xA0)] [] = true := by decide

/-- V39, DOC: DEC B: 0x00 to 0xFF, C kept at 0 (D7). -/
theorem test_v39 : steps (start .DOC [(.one .B, 0x00), (.one .F, 0x00)] [] [0x05]) 1
    [(.one .B, 0xFF), (.one .F, 0x60)] [] = true := by decide

/-- V40, DOC: DEC A: 0x01 to 0x00, C kept at 1. -/
theorem test_v40 : steps (start .DOC [(.one .A, 0x01), (.one .F, 0x10)] [] [0x3D]) 1
    [(.one .A, 0x00), (.one .F, 0xD0)] [] = true := by decide

/-- V41, DOC: INC (HL) wraps the byte. -/
theorem test_v41 : steps (start .DOC [(.HL, 0xC000), (.one .F, 0x50)] [(0xC000, 0xFF)] [0x34]) 1
    [(.one .F, 0xB0)] [(0xC000, 0x00)] = true := by decide

/-! ### The 16-bit ALU (L2.3) -/
/-- V50, DOC: ADD HL,HL carry out of bit 15, Z kept. -/
theorem test_v50 : steps (start .DOC [(.HL, 0x8000), (.one .F, 0x80)] [] [0x29]) 1
    [(.HL, 0x0000), (.one .F, 0x90)] [] = true := by decide

/-- V51, DOC: ADD HL,BC carry out of bits 11 and 15. -/
theorem test_v51 : steps (start .DOC [(.HL, 0xF800), (.BC, 0x0800), (.one .F, 0x40)] [] [0x09]) 1
    [(.HL, 0x0000), (.one .F, 0x30)] [] = true := by decide

/-- V52, DOC: ADD HL,SP. -/
theorem test_v52 : steps (start .DOC [(.HL, 0x0001), (.one .SP, 0xFFFF)] [] [0x39]) 1
    [(.HL, 0x0000), (.one .F, 0x30)] [] = true := by decide

/-- V53, DOC: ADD HL,DE no carry clears H and C. -/
theorem test_v53 : steps (start .DOC [(.HL, 0x1000), (.DE, 0x0100), (.one .F, 0x30)] [] [0x19]) 1
    [(.HL, 0x1100), (.one .F, 0x00)] [] = true := by decide

/-- V54, DOC: INC SP wraps, no flags. -/
theorem test_v54 : steps (start .DOC [(.one .SP, 0xFFFF), (.one .F, 0xF0)] [] [0x33]) 1
    [(.one .SP, 0x0000)] [] = true := by decide

/-- V55, DOC: DEC HL wraps, no flags. -/
theorem test_v55 : steps (start .DOC [(.HL, 0x0000), (.one .F, 0x00)] [] [0x2B]) 1
    [(.HL, 0xFFFF), (.one .H, 0xFF), (.one .L, 0xFF)] [] = true := by decide

/-- V56, DOC: ADD SP,e8 with e8=0x80 (-128). -/
theorem test_v56 : steps (start .DOC [(.one .SP, 0xD000), (.one .F, 0x00)] [] [0xE8, 0x80]) 2
    [(.one .SP, 0xCF80), (.one .F, 0x10)] [] = true := by decide

/-- V57, SM83: ADD SP,e8 with e8=0x80 (-128). -/
theorem test_v57 : steps (start .SM83 [(.one .SP, 0xD000), (.one .F, 0x00)] [] [0xE8, 0x80]) 2
    [(.one .SP, 0xCF80)] [] = true := by decide

/-! ### Rotates and shifts (L2.4) -/
/-- V60, DOC: RLCA of 0x00: Z differs by profile. -/
theorem test_v60 : steps (start .DOC [(.one .A, 0x00), (.one .F, 0x00)] [] [0x07]) 1
    [(.one .F, 0x80)] [] = true := by decide

/-- V61, SM83: RLCA of 0x00: Z differs by profile. -/
theorem test_v61 : steps (start .SM83 [(.one .A, 0x00), (.one .F, 0x00)] [] [0x07]) 1 [] [] = true := by decide

/-- V62, DOC: RRA of 0x01, C=0. -/
theorem test_v62 : steps (start .DOC [(.one .A, 0x01), (.one .F, 0x00)] [] [0x1F]) 1
    [(.one .A, 0x00), (.one .F, 0x90)] [] = true := by decide

/-- V63, SM83: RRA of 0x01, C=0. -/
theorem test_v63 : steps (start .SM83 [(.one .A, 0x01), (.one .F, 0x00)] [] [0x1F]) 1
    [(.one .A, 0x00), (.one .F, 0x10)] [] = true := by decide

/-- V64, DOC: RLA with C=1 feeds bit 0. -/
theorem test_v64 : steps (start .DOC [(.one .A, 0x00), (.one .F, 0x10)] [] [0x17]) 1
    [(.one .A, 0x01), (.one .F, 0x00)] [] = true := by decide

/-- V65, DOC: RRCA of 0x01. -/
theorem test_v65 : steps (start .DOC [(.one .A, 0x01), (.one .F, 0x00)] [] [0x0F]) 1
    [(.one .A, 0x80), (.one .F, 0x10)] [] = true := by decide

/-- V66, DOC: RL (HL) with C=1. -/
theorem test_v66 : steps (start .DOC [(.HL, 0xC000), (.one .F, 0x10)] [(0xC000, 0x80)] [0xCB, 0x16]) 2
    [] [(0xC000, 0x01)] = true := by decide

/-- V67, DOC: RR B with C=1. -/
theorem test_v67 : steps (start .DOC [(.one .B, 0x00), (.one .F, 0x10)] [] [0xCB, 0x18]) 2
    [(.one .B, 0x80), (.one .F, 0x00)] [] = true := by decide

/-- V68, DOC: SRA of 0x80 keeps bit 7. -/
theorem test_v68 : steps (start .DOC [(.one .A, 0x80)] [] [0xCB, 0x2F]) 2
    [(.one .A, 0xC0), (.one .F, 0x00)] [] = true := by decide

/-- V69, DOC: SRA of 0x01. -/
theorem test_v69 : steps (start .DOC [(.one .B, 0x01)] [] [0xCB, 0x28]) 2
    [(.one .B, 0x00), (.one .F, 0x90)] [] = true := by decide

/-- V70, DOC: SLA of 0xFF. -/
theorem test_v70 : steps (start .DOC [(.one .A, 0xFF)] [] [0xCB, 0x27]) 2
    [(.one .A, 0xFE), (.one .F, 0x10)] [] = true := by decide

/-- V71, DOC: SRL of 0x80. -/
theorem test_v71 : steps (start .DOC [(.one .A, 0x80)] [] [0xCB, 0x3F]) 2
    [(.one .A, 0x40), (.one .F, 0x00)] [] = true := by decide

/-- V72, DOC: RLC (HL) of 0xFF. -/
theorem test_v72 : steps (start .DOC [(.HL, 0xC000)] [(0xC000, 0xFF)] [0xCB, 0x06]) 2
    [(.one .F, 0x10)] [(0xC000, 0xFF)] = true := by decide

/-- V73, SM83: RRC A of 0x00 (CB form sets Z under both profiles). -/
theorem test_v73 : steps (start .SM83 [(.one .A, 0x00)] [] [0xCB, 0x0F]) 2 [(.one .F, 0x80)] [] = true := by decide

/-! ### Bit test, set and reset (L2.5) -/
/-- V80, DOC: BIT 0,A of 0x00. -/
theorem test_v80 : steps (start .DOC [(.one .A, 0x00), (.one .F, 0x50)] [] [0xCB, 0x47]) 2
    [(.one .F, 0xB0)] [] = true := by decide

/-- V81, DOC: BIT 7,A of 0x80, C=0 kept. -/
theorem test_v81 : steps (start .DOC [(.one .A, 0x80), (.one .F, 0xC0)] [] [0xCB, 0x7F]) 2
    [(.one .F, 0x20)] [] = true := by decide

/-- V82, DOC: BIT 3,(HL) of 0xF7. -/
theorem test_v82 : steps (start .DOC [(.HL, 0xC000), (.one .F, 0x10)] [(0xC000, 0xF7)] [0xCB, 0x5E]) 2
    [(.one .F, 0xB0)] [(0xC000, 0xF7)] = true := by decide

/-- V83, DOC: RES 7,(HL) of 0x80. -/
theorem test_v83 : steps (start .DOC [(.HL, 0xC000), (.one .F, 0xF0)] [(0xC000, 0x80)] [0xCB, 0xBE]) 2
    [] [(0xC000, 0x00)] = true := by decide

/-- V84, DOC: SET 0,B of 0xFE. -/
theorem test_v84 : steps (start .DOC [(.one .B, 0xFE), (.one .F, 0x00)] [] [0xCB, 0xC0]) 2
    [(.one .B, 0xFF)] [] = true := by decide

/-- V85, DOC: SET 7,A of 0x80 (already set). -/
theorem test_v85 : steps (start .DOC [(.one .A, 0x80)] [] [0xCB, 0xFF]) 2 [] [] = true := by decide

/-- V86, DOC: RES 4,H: HL changes through the alias. -/
theorem test_v86 : steps (start .DOC [(.HL, 0x1234)] [] [0xCB, 0xA4]) 2 [(.HL, 0x0234)] [] = true := by decide

/-! ### Control transfer (L2.6) -/
/-- V90, DOC: JR e8 with e8=0x80 (-128). -/
theorem test_v90 : steps (start .DOC [(.one .PC, 0x0200)] [] [0x18, 0x80]) 2
    [(.one .PC, 0x0182)] [] = true := by decide

/-- V92, DOC: JR e8 across the top of memory. -/
theorem test_v92 : steps (start .DOC [(.one .PC, 0xFFFE)] [] [0x18, 0x01]) 2
    [(.one .PC, 0x0001)] [] = true := by decide

/-- V93, DOC: JR C,e8 not taken. -/
theorem test_v93 : steps (start .DOC [(.one .PC, 0x0200), (.one .F, 0x00)] [] [0x38, 0x10]) 2
    [(.one .PC, 0x0202)] [] = true := by decide

/-- V94, DOC: JR Z,e8 taken. -/
theorem test_v94 : steps (start .DOC [(.one .PC, 0x0200), (.one .F, 0x80)] [] [0x28, 0xFE]) 2
    [(.one .PC, 0x0200)] [] = true := by decide

/-- V95, DOC: JP C,a16 taken. -/
theorem test_v95 : steps (start .DOC [(.one .F, 0x10)] [] [0xDA, 0x00, 0x40]) 3
    [(.one .PC, 0x4000)] [] = true := by decide

/-- V96, DOC: JP NC,a16 not taken. -/
theorem test_v96 : steps (start .DOC [(.one .F, 0x10)] [] [0xD2, 0x00, 0x40]) 3
    [(.one .PC, 0x0103)] [] = true := by decide

/-- V97, DOC: CALL a16 at SP=0x0001 wraps the stack. -/
theorem test_v97 : steps (start .DOC [(.one .PC, 0x0200), (.one .SP, 0x0001)] [] [0xCD, 0x00, 0x30]) 3
    [(.one .SP, 0xFFFF), (.one .PC, 0x3000)] [(0x0000, 0x02), (0xFFFF, 0x03)] = true := by decide

/-- V98, DOC: CALL Z,a16 taken. -/
theorem test_v98 : steps (start .DOC [(.one .SP, 0xE000), (.one .F, 0x80)] [] [0xCC, 0x00, 0x30]) 3
    [(.one .SP, 0xDFFE), (.one .PC, 0x3000)] [(0xDFFF, 0x01), (0xDFFE, 0x03)] = true := by decide

/-- V99, DOC: RET NC taken. -/
theorem test_v99 : steps (start .DOC [(.one .SP, 0xD000), (.one .F, 0x00)] [(0xD000, 0x78), (0xD001, 0x56)] [0xD0]) 1
    [(.one .PC, 0x5678), (.one .SP, 0xD002)] [] = true := by decide

/-- V100, DOC: RET C not taken. -/
theorem test_v100 : steps (start .DOC [(.one .SP, 0xD000), (.one .F, 0x00)] [(0xD000, 0x78), (0xD001, 0x56)] [0xD8]) 1
    [(.one .PC, 0x0101)] [] = true := by decide

/-- V101, DOC: RST 00h at 0x0100. -/
theorem test_v101 : steps (start .DOC [(.one .SP, 0xE000)] [] [0xC7]) 1
    [(.one .SP, 0xDFFE), (.one .PC, 0x0000)] [(0xDFFF, 0x01), (0xDFFE, 0x01)] = true := by decide

/-- V102, DOC: RST 18h. -/
theorem test_v102 : steps (start .DOC [(.one .SP, 0xE000)] [] [0xDF]) 1
    [(.one .SP, 0xDFFE), (.one .PC, 0x0018)] [(0xDFFF, 0x01), (0xDFFE, 0x01)] = true := by decide

/-- V103, DOC: JP (HL) reads no memory. -/
theorem test_v103 : steps (start .DOC [(.HL, 0xFFFF)] [] [0xE9]) 1
    [(.one .PC, 0xFFFF), (.one .SP, 0xE000)] [] = true := by decide

/-- V104, DOC: Conditions do not change flags. -/
theorem test_v104 : steps (start .DOC [(.one .F, 0xF0)] [] [0xC2, 0x00, 0x40]) 3
    [(.one .PC, 0x0103)] [] = true := by decide

/-! ### DAA, CPL, CCF, SCF, SWAP and NOP (L2.7) -/
/-- V119, DOC: DAA. -/
theorem test_v119 : steps (start .DOC [(.one .A, 0x9A), (.one .F, 0x00)] [] [0x27]) 1
    [(.one .A, 0xA0)] [] = true := by decide

/-- V120, SM83: DAA. -/
theorem test_v120 : steps (start .SM83 [(.one .A, 0x9A), (.one .F, 0x00)] [] [0x27]) 1
    [(.one .A, 0x00), (.one .F, 0x90)] [] = true := by decide

/-- V140, DOC: CPL of 0x00 keeps Z and C. -/
theorem test_v140 : steps (start .DOC [(.one .A, 0x00), (.one .F, 0x90)] [] [0x2F]) 1
    [(.one .A, 0xFF), (.one .F, 0xF0)] [] = true := by decide

/-- V141, DOC: CCF with C=1. -/
theorem test_v141 : steps (start .DOC [(.one .F, 0xF0)] [] [0x3F]) 1 [(.one .F, 0x80)] [] = true := by decide

/-- V142, DOC: CCF once from F=0x70. -/
theorem test_v142 : steps (start .DOC [(.one .F, 0x70)] [] [0x3F]) 1 [(.one .F, 0x00)] [] = true := by decide

/-- V143, DOC: SCF with C=1 already. -/
theorem test_v143 : steps (start .DOC [(.one .F, 0x70)] [] [0x37]) 1 [(.one .F, 0x10)] [] = true := by decide

/-- V144, DOC: SWAP A of 0x00. -/
theorem test_v144 : steps (start .DOC [(.one .A, 0x00), (.one .F, 0x70)] [] [0xCB, 0x37]) 2
    [(.one .F, 0x80)] [] = true := by decide

/-- V145, DOC: SWAP (HL) of 0x12. -/
theorem test_v145 : steps (start .DOC [(.HL, 0xC000), (.one .F, 0xF0)] [(0xC000, 0x12)] [0xCB, 0x36]) 2
    [(.one .F, 0x00)] [(0xC000, 0x21)] = true := by decide

/-- V146, DOC: NOP keeps every register. -/
theorem test_v146 : steps (start .DOC [(.one .A, 0x11), (.one .F, 0xF0), (.one .SP, 0x1234)] [] [0x00]) 1
    [(.one .PC, 0x0101)] [] = true := by decide

/-! ### Stops and ends (L2.8, P6) -/

/-- V153: an unassigned opcode ends the run, all else as it was but the record of its read. -/
theorem test_v153 :
    let s := start .DOC [(.one .A, 0x01)] [] [0xDD]
    s.settle (step s) = { s with outcome := .fault (.illegalOpcode 0xDD), bus := [.read 0x0100 0xDD] } := by decide

/-- V163: an out-of-scope opcode ends the run refused. -/
theorem test_v163 :
    let s := start .DOC [(.one .A, 0x01)] [] [0x76]
    s.settle (step s) = { s with outcome := .refused (.outOfScope 0x76), bus := [.read 0x0100 0x76] } := by decide

/-- R41, R48, R60: under ORACLE the opcode read at 0xFF80 that ends the run is one event and one draw, and PC stands. -/
theorem test_stop_in_io_window :
    let s := { State.reset with PC := 0xFF80, launch := { Launch.default with ioReads := .ORACLE } }
    let t := s.settle (raise (.illegalOpcode (s.portValue 0xFF80)))
    t.ioEvents = [.read 0xFF80 (Config.freeByte 0)] ∧ t.draws = 1 ∧ t.PC = 0xFF80 := ⟨rfl, rfl, rfl⟩

/-- R212, R261, R41, R48: under ORACLE the read of 0xFF80 that precedes the bit unit is one event and one draw. -/
theorem test_bit_fault_in_io_window :
    let s := { State.reset with H := 0xFF, L := 0x80, launch := { Launch.default with ioReads := .ORACLE } }
    let t := s.settleBit .atHL (bitAtHL .TEST 8 s)
    t.outcome = .fault (.bitIndexFault 8) ∧ t.ioEvents = [.read 0xFF80 (Config.freeByte 0)] ∧ t.draws = 1 :=
  ⟨rfl, rfl, rfl⟩

/-- V170: STOP_ADDR is looked at before the fetch. -/
theorem test_v170 :
    let s := start .DOC [] [] [0xDD]
    (after 1 { s with launch := { s.launch with stopAddr := some 0x0100 } }).outcome = .done := by decide

/-! ### Units and the port -/

/-- L1.9: the bit unit on the indices 7, 8 and 255. -/
theorem test_bit_unit_index :
    bitUnit .TEST 7 0x80 = .ok { z := false, res := 0x80 } ∧ bitUnit .TEST 8 0x00 = .error (.bitIndexFault 8) ∧
      bitUnit .SET 255 0x00 = .error (.bitIndexFault 255) := by decide

/-- V111-V135, odd: DAA under DOC as (A, F before, A, F after). -/
theorem test_daa_doc :
    [(0x00, 0x00, 0x00, 0x80), (0x09, 0x00, 0x09, 0x00), (0x0A, 0x00, 0x10, 0x00), (0x99, 0x00, 0x99, 0x00),
      (0xA0, 0x00, 0x00, 0x90), (0x00, 0x20, 0x06, 0x00), (0x00, 0x10, 0x60, 0x10), (0xFA, 0x00, 0x60, 0x10),
      (0x45, 0x40, 0x45, 0x40), (0x1F, 0x60, 0x25, 0x40), (0x00, 0x50, 0x60, 0x50), (0x99, 0x70, 0xFF, 0x50)].all
      (fun (x : Byte × Byte × Byte × Byte) =>
        daa .DOC x.1 (x.2.1.getLsbD 6) (x.2.1.getLsbD 5) (x.2.1.getLsbD 4) == { res := x.2.2.1, flags := x.2.2.2 })
      = true := by decide

/-- V112-V136, even: DAA under SM83. -/
theorem test_daa_sm83 :
    [(0x00, 0x00, 0x00, 0x80), (0x09, 0x00, 0x09, 0x00), (0x0A, 0x00, 0x10, 0x00), (0x99, 0x00, 0x99, 0x00),
      (0xA0, 0x00, 0x00, 0x90), (0x00, 0x20, 0x06, 0x00), (0x00, 0x10, 0x60, 0x10), (0xFA, 0x00, 0x60, 0x10),
      (0x45, 0x40, 0x45, 0x40), (0x1F, 0x60, 0x19, 0x40), (0x00, 0x50, 0xA0, 0x50), (0x99, 0x70, 0x33, 0x50)].all
      (fun (x : Byte × Byte × Byte × Byte) =>
        daa .SM83 x.1 (x.2.1.getLsbD 6) (x.2.1.getLsbD 5) (x.2.1.getLsbD 4) == { res := x.2.2.1, flags := x.2.2.2 })
      = true := by decide

/-- R126: a push writes the high byte first; the fetch's read comes before (R47). -/
theorem test_push_bus_order :
    (after 1 (start .DOC [(.BC, 0xBEEF)] [] [0xC5])).bus =
      [.read 0x0100 0xC5, .write 0xDFFF 0xBE, .write 0xDFFE 0xEF] := by decide

/-- L1.11: a direct write of F stores its high nibble, and the pair views are its bytes. -/
theorem test_port_masks_f :
    (State.reset.portSet (.one .F) 0xFF).F = 0xF0 ∧ (State.reset.portSet .HL 0xABCD).H = 0xAB ∧
      (State.reset.portSet .HL 0xABCD).L = 0xCD := by decide

/-- R41, R42 under ORACLE: the write at 0xFF00 is an event, the one at 0xFEFF is none. -/
theorem test_io_events :
    let s := { State.reset with launch := { Launch.default with ioReads := .ORACLE } }
    (s.writeByte 0xFF00 0x3C).ioEvents = [.write 0xFF00 0x3C] ∧ (s.writeByte 0xFEFF 0x3C).ioEvents = [] := by decide

/-! ## Witnesses: the hypotheses of each statement are met -/

/-- Under ORACLE. -/
def oracle : State := { State.reset with launch := { Launch.default with ioReads := .ORACLE } }

theorem witness_ResetMeetsInvariant : Memory.wf [(0x0100, 0x41), (0xFFFF, 0x01)] = true := by decide

theorem witness_IoReadsAreDrawsAndEvents_io :
    (oracle.launch.ioReads = .ORACLE ∧ 0xFF00 ≤ (0xFF00 : Addr).toNat) ∧
      (oracle.launch.ioReads = .ORACLE ∧ 0xFF00 ≤ (0xFFFF : Addr).toNat) := by decide

theorem witness_IoReadsAreDrawsAndEvents_memory :
    (oracle.launch.ioReads = .RAM ∨ (0xFEFF : Addr).toNat < 0xFF00) ∧
      (State.reset.launch.ioReads = .RAM ∨ (0xFFFF : Addr).toNat < 0xFF00) := by decide

theorem witness_PushThenPopRestores :
    (oracle.launch.ioReads = .RAM ∨
        (({ oracle with SP := 0xFF00 }.SP - 1).toNat < 0xFF00 ∧ ({ oracle with SP := 0xFF00 }.SP - 2).toNat < 0xFF00)) ∧
      { State.reset with SP := 0x0001 }.launch.ioReads = .RAM := by decide

theorem witness_BitIndexAboveSevenFaults : 7 < (8 : Byte).toNat ∧ (7 : Byte).toNat ≤ 7 := by decide

/-- Both outcomes of every condition (AbsoluteJumps, RelativeJumps, CallsPushNextPC, ReturnsPopPC). -/
theorem witness_conditions :
    [Cond.NZ, .Z, .NC, .C].all (fun cc =>
      (taken cc State.reset != taken cc { State.reset with F := 0x90 }) &&
        (taken cc State.reset || taken cc { State.reset with F := 0x90 })) = true := by decide

theorem witness_DecimalAdjustByProfile :
    State.reset.launch.flagProfile = .DOC ∧
      ((State.reset.withProfile .SM83).launch.flagProfile = .SM83 ∧ (State.reset.withProfile .SM83).flagN = false) ∧
      ({ State.reset.withProfile .SM83 with F := 0x40 }.launch.flagProfile = .SM83 ∧
        { State.reset.withProfile .SM83 with F := 0x40 }.flagN = true) := by decide

theorem witness_SiliconDecimalAdjustGivesBcd :
    let s := { State.reset.withProfile .SM83 with A := 0x99, F := 0x10 }
    (99 : Nat) < 100 ∧ s.launch.flagProfile = .SM83 ∧ s.A = bcd 99 := by decide

theorem witness_OutOfScopeOpcodesRefused :
    let s := start .DOC [] [] [0x76]
    s.outcome = .running ∧ s.launch.stopAddr ≠ some s.PC ∧ s.portValue s.PC = 0x76 ∧ 0x76 ∈ outOfScopeOpcodes := by
  decide

theorem witness_IllegalOpcodesFault :
    let s := start .DOC [] [] [0xFD]
    s.outcome = .running ∧ s.launch.stopAddr ≠ some s.PC ∧ s.portValue s.PC = 0xFD ∧ 0xFD ∈ illegalOpcodes := by decide

/-- At the top of memory: the three bytes lie at 0xFFFE, 0xFFFF and 0x0000. -/
theorem witness_StepRunsDecodedInstruction :
    let s := start .DOC [(.one .PC, 0xFFFE)] [] [0xCD, 0x34, 0x12]
    let i := Instr.call_a16 0x1234
    i.wf = true ∧ s.outcome = .running ∧ s.launch.stopAddr ≠ some s.PC ∧ PortHolds s.beginStep s.PC (encode i) :=
  ⟨by decide, by decide, by decide, by decide, by decide, by decide, trivial⟩

theorem witness_RunsEndAndStayEnded :
    ({ State.reset with launch := { Launch.default with stopAddr := some 0x0100 } }.outcome = .running ∧
        { State.reset with launch := { Launch.default with stopAddr := some 0x0100 } }.launch.stopAddr =
          some State.reset.PC) ∧
      (∃ t, step State.reset = .next t) ∧
      { State.reset with outcome := .fault (.illegalOpcode 0xDD) }.outcome = .fault (.illegalOpcode 0xDD) ∧
      { State.reset with outcome := .refused (.outOfScope 0x76) }.outcome = .refused (.outOfScope 0x76) :=
  ⟨by decide, ⟨_, rfl⟩, rfl, rfl⟩

theorem witness_DecodeInvertsEncode : Instr.wf (.ld_a16_SP 0xFF00) = true := by decide

/-- A step with a write and two reads more than the fetch, from a state with the invariant. -/
theorem witness_StepKeepsInvariant :
    (start .DOC [(.HL, 0xC000), (.one .F, 0xF0)] [] [0xCB, 0x16]).Inv ∧
      ∃ t, step (start .DOC [(.HL, 0xC000), (.one .F, 0xF0)] [] [0xCB, 0x16]) = .next t := ⟨by decide, _, rfl⟩

theorem witness_StepEffectsAreItsBusAccesses :
    ∃ t, step (start .DOC [(.one .SP, 0x0001)] [] [0xCD, 0x00, 0x30]) = .next t ∧ t.bus.length = 5 := ⟨_, rfl, rfl⟩

theorem witness_OnlyListedOpcodesStop :
    exec .illegal_D3 State.reset = .fault (.illegalOpcode 0xD3) ∧ exec .di State.reset = .refused (.outOfScope 0xF3) :=
  ⟨rfl, rfl⟩

theorem witness_OnlyListedOpcodesWritePCAndSP :
    (∃ t, exec .inc_B State.reset = .next t) ∧ (encode .inc_B).headD 0 ∉ transferOpcodes ∧
      (encode .inc_B).headD 0 ∉ stackPointerOpcodes := ⟨⟨_, rfl⟩, by decide, by decide⟩

theorem witness_ProfilesAgreeElsewhere : (encode .rlc_A).headD 0 ∉ profileOpcodes := by decide

end Sys2Proof.Tests
end

/-! The family 00_scope: what an access at the port does (O7), the meanings of the rows, the port accesses of a step (O57),
and the flag profile (O60). -/

namespace Sys2Proof.Machine

/-! ## The port by where an access lies (spec/00_scope.md R6) -/

theorem State.ioAt_eq_true {s : State} {a : Addr} (hio : s.launch.ioReads = .ORACLE) (ha : 0xFF00 ≤ a.toNat) :
    s.ioAt a = true := by
  simpa [State.ioAt, hio, ioBase] using ha

theorem State.ioAt_eq_false {s : State} {a : Addr} (h : s.launch.ioReads = .RAM ∨ a.toNat < 0xFF00) :
    s.ioAt a = false := by
  unfold State.ioAt
  split
  · rfl
  · rename_i hio
    have ha : a.toNat < 0xFF00 := h.resolve_left (by simp [hio])
    simpa [ioBase] using ha

/-- An access that is an IO event: a read there is the next draw and uses it up. -/
theorem port_of_ioAt {s : State} {a : Addr} (h : s.ioAt a = true) (v : Byte) :
    s.portValue a = Config.freeByte s.draws ∧ (s.afterRead a).draws = s.draws + 1 ∧
      (s.afterRead a).ioEvents = s.ioEvents ++ [.read a (s.portValue a)] ∧
      (s.writeByte a v).ioEvents = s.ioEvents ++ [.write a v] := by
  simp [State.portValue, State.afterRead, State.writeByte, h]

/-- An access that is no IO event: a read there gives the byte of memory and leaves the bus record alone changed. -/
theorem port_of_not_ioAt {s : State} {a : Addr} (h : s.ioAt a = false) (v : Byte) :
    s.portValue a = s.peek a ∧ s.afterRead a = { s with bus := s.bus ++ [.read a (s.portValue a)] } ∧
      (s.writeByte a v).ioEvents = s.ioEvents := by
  simp [State.portValue, State.afterRead, State.writeByte, h]

/-- Settles O7: by whether the access is an IO event, which the read itself does not change. -/
theorem ioReadsAreDrawsAndEvents : Obligations.IoReadsAreDrawsAndEvents := by
  unfold Obligations.IoReadsAreDrawsAndEvents
  intro s a v
  have hsame : (s.afterRead a).ioAt a = s.ioAt a := State.ioAt_congr rfl a
  constructor
  · intro hio ha
    have h : s.ioAt a = true := State.ioAt_eq_true hio ha
    obtain ⟨hval, hdraws, hread, hwrite⟩ := port_of_ioAt h v
    have hnext : (s.afterRead a).portValue a = Config.freeByte (s.draws + 1) := by
      rw [← hdraws]
      exact (port_of_ioAt (hsame.trans h) v).1
    exact ⟨hval, hnext, hread, hwrite⟩
  · intro hmem
    have h : s.ioAt a = false := State.ioAt_eq_false hmem
    obtain ⟨hval, hread, hwrite⟩ := port_of_not_ioAt h v
    have hagain : (s.afterRead a).portValue a = s.portValue a := by
      rw [hval]
      exact (port_of_not_ioAt (hsame.trans h) v).1
    exact ⟨hval, hagain, by rw [hread], hwrite⟩

/-! ## The rows by their meanings

exec has 512 arms. Every instruction is a row of one of the decoder's formats, and Laws/Dispatch.lean gives the meaning of
each format by its fields: so a claim about every instruction splits into the formats and not into the arms. -/

/-- `Meaning i f`: the row `i` runs the shared operation `f`. One constructor a format, with the format's fields. -/
inductive Meaning : Instr → (State → Result) → Prop
  | ldReg (d r : Reg8) : Meaning (Rows.ldReg d r) (ldRegReg d r)
  | ldImm (d : Reg8) (n : Byte) : Meaning (Rows.ldImm d n) (ldRegImm d n)
  | ldFromHL (d : Reg8) : Meaning (Rows.ldFromHL d) (fun s => ldRegAt d s.HL s)
  | ldToHL (r : Reg8) : Meaning (Rows.ldToHL r) (fun s => storeAt s.HL (s.reg r) s)
  | ld_atHL_d8 (n : Byte) : Meaning (.ld_atHL_d8 n) (fun s => storeAt s.HL n s)
  | ldAInd (p : IndPtr) : Meaning (Rows.ldAInd p) (Machine.ldAInd p)
  | ldIndA (p : IndPtr) : Meaning (Rows.ldIndA p) (Machine.ldIndA p)
  | ld_A_a16 (nn : Addr) : Meaning (.ld_A_a16 nn) (ldRegAt .A nn)
  | ld_a16_A (nn : Addr) : Meaning (.ld_a16_A nn) (fun s => storeAt nn s.A s)
  | ldh_A_a8 (n : Byte) : Meaning (.ldh_A_a8 n) (ldRegAt .A (ioPort n))
  | ldh_a8_A (n : Byte) : Meaning (.ldh_a8_A n) (fun s => storeAt (ioPort n) s.A s)
  | ld_A_atC : Meaning .ld_A_atC (fun s => ldRegAt .A (ioPort s.C) s)
  | ld_atC_A : Meaning .ld_atC_A (fun s => storeAt (ioPort s.C) s.A s)
  | ldPair (rr : Reg16) (nn : Addr) : Meaning (Rows.ldPair rr nn) (ldPairImm rr nn)
  | ld_a16_SP (nn : Addr) : Meaning (.ld_a16_SP nn) (storeSP nn)
  | ld_SP_HL : Meaning .ld_SP_HL ldSPHL
  | ld_HL_SPe8 (e : Byte) : Meaning (.ld_HL_SPe8 e) (ldHLSPe8 e)
  | push (qq : StackReg) : Meaning (Rows.push qq) (Machine.push qq)
  | pop (qq : StackReg) : Meaning (Rows.pop qq) (Machine.pop qq)
  | aluReg (op : AluOp) (r : Reg8) : Meaning (Rows.aluReg op r) (Machine.aluReg op r)
  | aluAtHL (op : AluOp) : Meaning (Rows.aluAtHL op) (Machine.aluAtHL op)
  | aluImm (op : AluOp) (n : Byte) : Meaning (Rows.aluImm op n) (aluValue op n)
  | incReg (r : Reg8) : Meaning (Rows.incReg r) (Machine.incReg r)
  | decReg (r : Reg8) : Meaning (Rows.decReg r) (Machine.decReg r)
  | inc_atHL : Meaning .inc_atHL incAtHL
  | dec_atHL : Meaning .dec_atHL decAtHL
  | addHL (rr : Reg16) : Meaning (Rows.addHL rr) (Machine.addHL rr)
  | incPair (rr : Reg16) : Meaning (Rows.incPair rr) (Machine.incPair rr)
  | decPair (rr : Reg16) : Meaning (Rows.decPair rr) (Machine.decPair rr)
  | add_SP_e8 (e : Byte) : Meaning (.add_SP_e8 e) (addSPe8 e)
  | rlca : Meaning .rlca (rotA .RLC)
  | rrca : Meaning .rrca (rotA .RRC)
  | rla : Meaning .rla (rotA .RL)
  | rra : Meaning .rra (rotA .RR)
  | rotReg (op : RotOp) (r : Reg8) : Meaning (Rows.rotReg op r) (Machine.rotReg op r)
  | rotAtHL (op : RotOp) : Meaning (Rows.rotAtHL op) (Machine.rotAtHL op)
  | testReg (b : Field3) (r : Reg8) : Meaning (Rows.testReg b r) (bitReg .TEST b.toByte r)
  | testAtHL (b : Field3) : Meaning (Rows.testAtHL b) (bitAtHL .TEST b.toByte)
  | resetReg (b : Field3) (r : Reg8) : Meaning (Rows.resetReg b r) (bitReg .RESET b.toByte r)
  | resetAtHL (b : Field3) : Meaning (Rows.resetAtHL b) (bitAtHL .RESET b.toByte)
  | setReg (b : Field3) (r : Reg8) : Meaning (Rows.setReg b r) (bitReg .SET b.toByte r)
  | setAtHL (b : Field3) : Meaning (Rows.setAtHL b) (bitAtHL .SET b.toByte)
  | prefix_CB (cb : Byte) : Meaning (.prefix_CB cb) (prefixed cb)
  | jp_a16 (nn : Addr) : Meaning (.jp_a16 nn) (jumpTo nn)
  | jpIf (cc : Cond) (nn : Addr) : Meaning (Rows.jpIf cc nn) (jumpIf cc nn)
  | jp_HL : Meaning .jp_HL (fun s => jumpTo s.HL s)
  | jr_e8 (e : Byte) : Meaning (.jr_e8 e) (fun s => jumpTo (relTarget e s) s)
  | jrIf (cc : Cond) (e : Byte) : Meaning (Rows.jrIf cc e) (fun s => jumpIf cc (relTarget e s) s)
  | call_a16 (nn : Addr) : Meaning (.call_a16 nn) (callTo nn)
  | callIf (cc : Cond) (nn : Addr) : Meaning (Rows.callIf cc nn) (Machine.callIf cc nn)
  | ret : Meaning .ret Machine.ret
  | retIf (cc : Cond) : Meaning (Rows.retIf cc) (Machine.retIf cc)
  | rst (t : Field3) : Meaning (Rows.rst t) (callTo (rstTarget t))
  | daa : Meaning .daa decimalAdjust
  | cpl : Meaning .cpl complementA
  | ccf : Meaning .ccf complementCarry
  | scf : Meaning .scf setCarry
  | nop : Meaning .nop Machine.nop
  | outOfScope {i : Instr} (op : Byte) (hop : op ∈ outOfScopeOpcodes) (henc : encode i = [op])
      (hexec : ∀ s, exec i s = refuse op) : Meaning i (fun _ => refuse op)
  | illegal {i : Instr} (op : Byte) (hop : op ∈ illegalOpcodes) (henc : encode i = [op])
      (hexec : ∀ s, exec i s = raise (.illegalOpcode op)) : Meaning i (fun _ => raise (.illegalOpcode op))

/-- `exec` runs the meaning of the row. -/
theorem Meaning.exec_eq {i : Instr} {f : State → Result} (h : Meaning i f) (s : State) : exec i s = f s := by
  cases h with
  | ldReg d r => exact exec_ldReg d r s
  | ldImm d n => exact exec_ldImm d n s
  | ldFromHL d => exact exec_ldFromHL d s
  | ldToHL r => exact exec_ldToHL r s
  | ldAInd p => exact exec_ldAInd p s
  | ldIndA p => exact exec_ldIndA p s
  | ldPair rr nn => exact exec_ldPair rr nn s
  | push qq => exact exec_push qq s
  | pop qq => exact exec_pop qq s
  | aluReg op r => exact exec_aluReg op r s
  | aluAtHL op => exact exec_aluAtHL op s
  | aluImm op n => exact exec_aluImm op n s
  | incReg r => exact exec_incReg r s
  | decReg r => exact exec_decReg r s
  | addHL rr => exact exec_addHL rr s
  | incPair rr => exact exec_incPair rr s
  | decPair rr => exact exec_decPair rr s
  | rotReg op r => exact exec_rotReg op r s
  | rotAtHL op => exact exec_rotAtHL op s
  | testReg b r => exact exec_testReg b r s
  | testAtHL b => exact exec_testAtHL b s
  | resetReg b r => exact exec_resetReg b r s
  | resetAtHL b => exact exec_resetAtHL b s
  | setReg b r => exact exec_setReg b r s
  | setAtHL b => exact exec_setAtHL b s
  | jpIf cc nn => exact exec_jpIf cc nn s
  | jrIf cc e => exact exec_jrIf cc e s
  | callIf cc nn => exact exec_callIf cc nn s
  | retIf cc => exact exec_retIf cc s
  | rst t => exact exec_rst t s
  | outOfScope op _ _ hexec => exact hexec s
  | illegal op _ _ hexec => exact hexec s
  | _ => rfl

/-! ## Every instruction has a meaning: along the decoder, and through the round trip for all of Instr -/

theorem meaning_decodeMove (d r : RField) : ∃ f, Meaning (decodeMove d r) f := by
  cases d with
  | reg d =>
    cases r with
    | reg r => exact ⟨_, .ldReg d r⟩
    | atHL => exact ⟨_, .ldFromHL d⟩
  | atHL =>
    cases r with
    | reg r => exact ⟨_, .ldToHL r⟩
    | atHL => exact ⟨_, .outOfScope 0x76 (by decide) rfl fun _ => rfl⟩

theorem meaning_decodeAlu (op : AluOp) (r : RField) : ∃ f, Meaning (decodeAlu op r) f := by
  cases r with
  | reg r => exact ⟨_, .aluReg op r⟩
  | atHL => exact ⟨_, .aluAtHL op⟩

theorem meaning_decodeCB (cb : Byte) : ∃ f, Meaning (decodeCB cb) f := by
  unfold decodeCB
  split
  exacts [⟨_, .rotReg _ _⟩, ⟨_, .rotAtHL _⟩, ⟨_, .testReg _ _⟩, ⟨_, .testAtHL _⟩, ⟨_, .resetReg _ _⟩,
    ⟨_, .resetAtHL _⟩, ⟨_, .setReg _ _⟩, ⟨_, .setAtHL _⟩]

theorem meaning_decodeX0 (y z : Field3) (b1 b2 : Byte) : ∃ f, Meaning (decodeX0 y z b1 b2) f := by
  cases z with
  | b0 =>
    cases y
    exacts [⟨_, .nop⟩, ⟨_, .ld_a16_SP _⟩, ⟨_, .outOfScope 0x10 (by decide) rfl fun _ => rfl⟩, ⟨_, .jr_e8 b1⟩,
      ⟨_, .jrIf .NZ b1⟩, ⟨_, .jrIf .Z b1⟩, ⟨_, .jrIf .NC b1⟩, ⟨_, .jrIf .C b1⟩]
  | b1 =>
    show ∃ f, Meaning (if y.q then Rows.addHL (.ofY y) else Rows.ldPair (.ofY y) (word16 b2 b1)) f
    split
    exacts [⟨_, .addHL _⟩, ⟨_, .ldPair _ _⟩]
  | b2 =>
    show ∃ f, Meaning (if y.q then Rows.ldAInd (.ofY y) else Rows.ldIndA (.ofY y)) f
    split
    exacts [⟨_, .ldAInd _⟩, ⟨_, .ldIndA _⟩]
  | b3 =>
    show ∃ f, Meaning (if y.q then Rows.decPair (.ofY y) else Rows.incPair (.ofY y)) f
    split
    exacts [⟨_, .decPair _⟩, ⟨_, .incPair _⟩]
  | b4 =>
    unfold decodeX0
    dsimp only
    split
    exacts [⟨_, .incReg _⟩, ⟨_, .inc_atHL⟩]
  | b5 =>
    unfold decodeX0
    dsimp only
    split
    exacts [⟨_, .decReg _⟩, ⟨_, .dec_atHL⟩]
  | b6 =>
    unfold decodeX0
    dsimp only
    split
    exacts [⟨_, .ldImm _ b1⟩, ⟨_, .ld_atHL_d8 b1⟩]
  | b7 =>
    cases y
    exacts [⟨_, .rlca⟩, ⟨_, .rrca⟩, ⟨_, .rla⟩, ⟨_, .rra⟩, ⟨_, .daa⟩, ⟨_, .cpl⟩, ⟨_, .scf⟩, ⟨_, .ccf⟩]

theorem meaning_decodeX3 (y z : Field3) (b1 b2 : Byte) : ∃ f, Meaning (decodeX3 y z b1 b2) f := by
  cases z with
  | b0 =>
    cases y
    exacts [⟨_, .retIf .NZ⟩, ⟨_, .retIf .Z⟩, ⟨_, .retIf .NC⟩, ⟨_, .retIf .C⟩, ⟨_, .ldh_a8_A b1⟩, ⟨_, .add_SP_e8 b1⟩,
      ⟨_, .ldh_A_a8 b1⟩, ⟨_, .ld_HL_SPe8 b1⟩]
  | b1 =>
    cases y
    exacts [⟨_, .pop .BC⟩, ⟨_, .ret⟩, ⟨_, .pop .DE⟩, ⟨_, .outOfScope 0xD9 (by decide) rfl fun _ => rfl⟩,
      ⟨_, .pop .HL⟩, ⟨_, .jp_HL⟩, ⟨_, .pop .AF⟩, ⟨_, .ld_SP_HL⟩]
  | b2 =>
    cases y
    exacts [⟨_, .jpIf .NZ _⟩, ⟨_, .jpIf .Z _⟩, ⟨_, .jpIf .NC _⟩, ⟨_, .jpIf .C _⟩, ⟨_, .ld_atC_A⟩, ⟨_, .ld_a16_A _⟩,
      ⟨_, .ld_A_atC⟩, ⟨_, .ld_A_a16 _⟩]
  | b3 =>
    cases y
    exacts [⟨_, .jp_a16 _⟩, meaning_decodeCB b1, ⟨_, .illegal 0xD3 (by decide) rfl fun _ => rfl⟩,
      ⟨_, .illegal 0xDB (by decide) rfl fun _ => rfl⟩, ⟨_, .illegal 0xE3 (by decide) rfl fun _ => rfl⟩,
      ⟨_, .illegal 0xEB (by decide) rfl fun _ => rfl⟩, ⟨_, .outOfScope 0xF3 (by decide) rfl fun _ => rfl⟩,
      ⟨_, .outOfScope 0xFB (by decide) rfl fun _ => rfl⟩]
  | b4 =>
    cases y
    exacts [⟨_, .callIf .NZ _⟩, ⟨_, .callIf .Z _⟩, ⟨_, .callIf .NC _⟩, ⟨_, .callIf .C _⟩,
      ⟨_, .illegal 0xE4 (by decide) rfl fun _ => rfl⟩, ⟨_, .illegal 0xEC (by decide) rfl fun _ => rfl⟩,
      ⟨_, .illegal 0xF4 (by decide) rfl fun _ => rfl⟩, ⟨_, .illegal 0xFC (by decide) rfl fun _ => rfl⟩]
  | b5 =>
    cases y
    exacts [⟨_, .push .BC⟩, ⟨_, .call_a16 _⟩, ⟨_, .push .DE⟩, ⟨_, .illegal 0xDD (by decide) rfl fun _ => rfl⟩,
      ⟨_, .push .HL⟩, ⟨_, .illegal 0xED (by decide) rfl fun _ => rfl⟩, ⟨_, .push .AF⟩,
      ⟨_, .illegal 0xFD (by decide) rfl fun _ => rfl⟩]
  | b6 => exact ⟨_, .aluImm _ b1⟩
  | b7 => exact ⟨_, .rst y⟩

theorem meaning_decodeInsn (op b1 b2 : Byte) : ∃ f, Meaning (decodeInsn op b1 b2) f := by
  unfold decodeInsn
  split
  · exact meaning_decodeX0 _ _ b1 b2
  · exact meaning_decodeMove _ _
  · exact meaning_decodeAlu _ _
  · exact meaning_decodeX3 _ _ b1 b2

/-- A row that its own bytes decode to has a meaning. -/
theorem meaning_of_encode {i : Instr} {op : Byte} {operands : List Byte} (_henc : encode i = op :: operands)
    (hdec : decodeInsn op (operands.getD 0 0) (operands.getD 1 0) = i) : ∃ f, Meaning i f :=
  hdec ▸ meaning_decodeInsn op _ _

/-- Every term of Instr has a meaning: the row of 0xCB and the rows with an imm16 by their formats, every other row as what
its own bytes decode to. -/
theorem exists_meaning (i : Instr) : ∃ f, Meaning i f := by
  cases i
  case prefix_CB cb => exact ⟨_, .prefix_CB cb⟩
  case ld_A_a16 nn => exact ⟨_, .ld_A_a16 nn⟩
  case ld_a16_A nn => exact ⟨_, .ld_a16_A nn⟩
  case ld_a16_SP nn => exact ⟨_, .ld_a16_SP nn⟩
  case ld_BC_d16 nn => exact ⟨_, .ldPair .BC nn⟩
  case ld_DE_d16 nn => exact ⟨_, .ldPair .DE nn⟩
  case ld_HL_d16 nn => exact ⟨_, .ldPair .HL nn⟩
  case ld_SP_d16 nn => exact ⟨_, .ldPair .SP nn⟩
  case jp_a16 nn => exact ⟨_, .jp_a16 nn⟩
  case jp_NZ_a16 nn => exact ⟨_, .jpIf .NZ nn⟩
  case jp_Z_a16 nn => exact ⟨_, .jpIf .Z nn⟩
  case jp_NC_a16 nn => exact ⟨_, .jpIf .NC nn⟩
  case jp_C_a16 nn => exact ⟨_, .jpIf .C nn⟩
  case call_a16 nn => exact ⟨_, .call_a16 nn⟩
  case call_NZ_a16 nn => exact ⟨_, .callIf .NZ nn⟩
  case call_Z_a16 nn => exact ⟨_, .callIf .Z nn⟩
  case call_NC_a16 nn => exact ⟨_, .callIf .NC nn⟩
  case call_C_a16 nn => exact ⟨_, .callIf .C nn⟩
  all_goals exact meaning_of_encode rfl rfl

/-! ## The frames of the shared operations -/

theorem frame_aluWith (s : State) (op : AluOp) (b : Byte) : Frame [.A, .F] [] s (s.aluWith op b) :=
  (frame_setReg s .A _).trans (frame_writeF _ _)

theorem frame_indAdjust (s : State) (p : IndPtr) : Frame [.H, .L] [] s (s.indAdjust p) := by
  cases p with
  | BC | DE => exact (Frame.refl s).mono (by simp) rfl
  | HLinc | HLdec => exact frame_setHL s _

theorem frame_writeWord (s : State) (a v : Addr) :
    Frame [] [.write a (loByte v), .write (a + 1) (hiByte v)] s (s.writeWord a v) :=
  (frame_writeByte s a _).trans (frame_writeByte _ (a + 1) _)

/-- The read of a byte and the write of its replacement at the same address (R173, R196, R214). -/
theorem frame_readWrite (s : State) (a : Addr) (v : Byte) :
    Frame [] [.read a (s.portValue a), .write a v] s ((s.afterRead a).writeByte a v) :=
  (frame_afterRead s a).trans (frame_writeByte _ a v)

theorem frame_callTo (s : State) (t : Addr) :
    Frame [.SP, .PC] [.write (s.SP - 1) (hiByte s.PC), .write (s.SP - 2) (loByte s.PC)] s ((s.stackPush s.PC).goto t) :=
  (frame_stackPush s s.PC).trans (frame_goto _ t)

theorem frame_ret (s : State) : Frame [.SP, .PC] (popReads s) s (s.afterPop.goto s.popValue) :=
  (frame_afterPop s).trans (frame_goto _ _)

/-! ## How many accesses a meaning makes -/

/-- Where `r` is a next state, it is `s` after at most `n` port accesses, and memory, the IO events, the draws and the
parameters are what those accesses make of them. -/
def AccessesAtMost (n : Nat) (s : State) (r : Result) : Prop :=
  ∀ t, r = .next t → ∃ regs acc, Frame regs acc s t ∧ acc.length ≤ n

theorem AccessesAtMost.next {n : Nat} {regs : List RegName} {acc : List Access} {s t : State} (h : Frame regs acc s t)
    (hn : acc.length ≤ n := by simp) : AccessesAtMost n s (.next t) := by
  rintro _ ⟨⟩
  exact ⟨regs, acc, h, hn⟩

theorem AccessesAtMost.fault (n : Nat) (s : State) (r : Fault) : AccessesAtMost n s (.fault r) := nofun

theorem AccessesAtMost.refused (n : Nat) (s : State) (r : Refusal) : AccessesAtMost n s (.refused r) := nofun

/-- A conditional transfer makes the accesses of the transfer, or none. -/
theorem AccessesAtMost.ifTaken {n : Nat} {s : State} {r : Result} (c : Bool) (h : AccessesAtMost n s r) :
    AccessesAtMost n s (if c then r else .next s) := by
  split
  · exact h
  · exact .next (Frame.refl s)

theorem accessesAtMost_jumpTo (t : Addr) (s : State) : AccessesAtMost 2 s (jumpTo t s) := .next (frame_goto s t)

theorem accessesAtMost_callTo (t : Addr) (s : State) : AccessesAtMost 2 s (callTo t s) := .next (frame_callTo s t)

theorem accessesAtMost_ret (s : State) : AccessesAtMost 2 s (ret s) := .next (frame_ret s) (by simp [popReads])

theorem accessesAtMost_rotReg (op : RotOp) (r : Reg8) (s : State) : AccessesAtMost 2 s (rotReg op r s) :=
  .next ((frame_setReg s r _).trans (frame_writeF _ _))

theorem accessesAtMost_rotAtHL (op : RotOp) (s : State) : AccessesAtMost 2 s (rotAtHL op s) :=
  .next ((frame_readWrite s s.HL _).trans (frame_writeF _ _))

/-- For any index byte: one above 7 faults. -/
theorem accessesAtMost_bitReg (kind : BitKind) (i : Byte) (r : Reg8) (s : State) :
    AccessesAtMost 2 s (bitReg kind i r s) := by
  unfold bitReg
  split
  · exact .fault 2 s _
  · cases kind
    · exact .next (frame_writeF s _)
    · exact .next (frame_setReg s r _)
    · exact .next (frame_setReg s r _)

theorem accessesAtMost_bitAtHL (kind : BitKind) (i : Byte) (s : State) : AccessesAtMost 2 s (bitAtHL kind i s) := by
  unfold bitAtHL
  split
  · exact .fault 2 s _
  · cases kind
    · exact .next ((frame_afterRead s s.HL).trans (frame_writeF _ _))
    · exact .next (frame_readWrite s s.HL _)
    · exact .next (frame_readWrite s s.HL _)

theorem accessesAtMost_prefixed (cb : Byte) (s : State) : AccessesAtMost 2 s (prefixed cb s) := by
  unfold prefixed
  split
  · exact accessesAtMost_rotReg _ _ s
  · exact accessesAtMost_rotAtHL _ s
  · exact accessesAtMost_bitReg _ _ _ s
  · exact accessesAtMost_bitAtHL _ _ s
  · exact accessesAtMost_bitReg _ _ _ s
  · exact accessesAtMost_bitAtHL _ _ s
  · exact accessesAtMost_bitReg _ _ _ s
  · exact accessesAtMost_bitAtHL _ _ s

/-- No meaning makes more than two accesses: a pop reads two bytes, a push writes two, and an operation on the byte at HL
reads it and writes it. -/
theorem Meaning.accessesAtMost_two {i : Instr} {f : State → Result} (h : Meaning i f) (s : State) :
    AccessesAtMost 2 s (f s) := by
  cases h with
  | ldReg d r => exact .next (frame_setReg s d _)
  | ldImm d n => exact .next (frame_setReg s d n)
  | ldFromHL d => exact .next ((frame_afterRead s _).trans (frame_setReg _ d _))
  | ld_A_a16 | ldh_A_a8 | ld_A_atC => exact .next ((frame_afterRead s _).trans (frame_setReg _ .A _))
  | ldToHL | ld_atHL_d8 | ld_a16_A | ldh_a8_A | ld_atC_A => exact .next (frame_writeByte s _ _)
  | ldAInd p => exact .next (((frame_afterRead s _).trans (frame_setReg _ .A _)).trans (frame_indAdjust _ p))
  | ldIndA p => exact .next ((frame_writeByte s _ _).trans (frame_indAdjust _ p))
  | ldPair rr nn => exact .next (frame_setPair s rr nn)
  | ld_a16_SP nn => exact .next (frame_writeWord s nn _)
  | ld_SP_HL => exact .next (frame_setSP s _)
  | ld_HL_SPe8 => exact .next ((frame_setHL s _).trans (frame_writeF _ _))
  | push qq => exact .next (frame_stackPush s _)
  | pop qq => exact .next ((frame_afterPop s).trans (frame_setStackPair _ qq _))
  | aluReg op r => exact .next (frame_aluWith s op _)
  | aluAtHL op => exact .next ((frame_afterRead s s.HL).trans (frame_aluWith _ op _))
  | aluImm op n => exact .next (frame_aluWith s op n)
  | incReg r | decReg r => exact .next ((frame_setReg s r _).trans (frame_writeF _ _))
  | inc_atHL | dec_atHL => exact .next ((frame_readWrite s s.HL _).trans (frame_writeF _ _))
  | addHL => exact .next ((frame_setHL s _).trans (frame_writeF _ _))
  | incPair rr | decPair rr => exact .next (frame_setPair s rr _)
  | add_SP_e8 => exact .next ((frame_setSP s _).trans (frame_writeF _ _))
  | rlca | rrca | rla | rra | daa | cpl => exact .next ((frame_setReg s .A _).trans (frame_writeF _ _))
  | rotReg op r => exact accessesAtMost_rotReg op r s
  | rotAtHL op => exact accessesAtMost_rotAtHL op s
  | testReg b r | resetReg b r | setReg b r => exact accessesAtMost_bitReg _ _ r s
  | testAtHL | resetAtHL | setAtHL => exact accessesAtMost_bitAtHL _ _ s
  | prefix_CB cb => exact accessesAtMost_prefixed cb s
  | jp_a16 | jp_HL | jr_e8 => exact accessesAtMost_jumpTo _ s
  | jpIf cc | jrIf cc => exact (accessesAtMost_jumpTo _ s).ifTaken (s.cond cc)
  | call_a16 | rst => exact accessesAtMost_callTo _ s
  | callIf cc nn => exact (accessesAtMost_callTo nn s).ifTaken (s.cond cc)
  | ret => exact accessesAtMost_ret s
  | retIf cc => exact (accessesAtMost_ret s).ifTaken (s.cond cc)
  | ccf | scf => exact .next (frame_writeF s _)
  | nop => exact .next (Frame.refl s)
  | outOfScope => exact .refused 2 s _
  | illegal => exact .fault 2 s _

theorem exec_accessesAtMost_two (i : Instr) (s : State) : AccessesAtMost 2 s (exec i s) := by
  obtain ⟨f, hf⟩ := exists_meaning i
  rw [hf.exec_eq]
  exact hf.accessesAtMost_two s

/-! ## The accesses of a step -/

theorem frame_fetchOperands (op : Byte) (s : State) :
    ∃ acc, Frame [] acc s (fetchOperands op s).2.2 ∧ acc.length ≤ 2 ∧ ∀ x ∈ acc, x.isRead = true := by
  unfold fetchOperands
  split
  · exact ⟨[], .refl s, by simp, by simp⟩
  · exact ⟨_, frame_afterRead s _, by simp, by simp [Access.isRead]⟩
  · exact ⟨_, (frame_afterRead s _).trans (frame_afterRead _ _), by simp, by simp [Access.isRead]⟩

/-- The fetch is at most three accesses, all of them reads, and an advance of PC (R63, R68). -/
theorem frame_fetch (s : State) :
    ∃ acc, Frame [.PC] acc s (fetch s).2 ∧ acc.length ≤ 3 ∧ ∀ x ∈ acc, x.isRead = true := by
  obtain ⟨acc, hframe, hlen, hreads⟩ := frame_fetchOperands (s.portValue s.PC) (s.afterRead s.PC)
  refine ⟨_, ((frame_afterRead s s.PC).trans hframe).trans (frame_goto _ _), ?_, ?_⟩
  · simp only [List.append_nil, List.length_append, List.length_singleton]
    omega
  · simpa [Access.isRead] using hreads

/-- An instruction fetched and run: at most five accesses, and since the fetch writes nothing at most two writes. -/
theorem frame_fetch_exec {s t : State} (h : exec (fetch s).1 (fetch s).2 = .next t) :
    ∃ regs acc, Frame regs acc s t ∧ acc.length ≤ 5 ∧ (acc.filter (fun x => !x.isRead)).length ≤ 2 := by
  obtain ⟨accF, hfetch, hlenF, hreads⟩ := frame_fetch s
  obtain ⟨regs, accE, hexec, hlenE⟩ := exec_accessesAtMost_two _ _ t h
  have hwritesF : accF.filter (fun x => !x.isRead) = [] := by simpa [List.filter_eq_nil_iff] using hreads
  have hwritesE : (accE.filter (fun x => !x.isRead)).length ≤ 2 := (List.length_filter_le _ _).trans hlenE
  refine ⟨_, accF ++ accE, hfetch.trans hexec, ?_, ?_⟩
  · rw [List.length_append]; omega
  · rwa [List.filter_append, hwritesF, List.nil_append]

/-- Settles O57: a step ends the run with an empty bus, or its bus is the accesses of the fetch and of the meaning. -/
theorem stepEffectsAreItsBusAccesses : Obligations.StepEffectsAreItsBusAccesses := by
  unfold Obligations.StepEffectsAreItsBusAccesses
  intro s t h
  obtain ⟨-, ⟨-, rfl⟩ | ⟨-, hexec⟩⟩ := step_next_cases h
  · exact ⟨fun _ => rfl, by simp, by simp, by simp, by simp, rfl⟩
  · obtain ⟨regs, acc, hframe, hlen, hwrites⟩ := frame_fetch_exec hexec
    have hbus : t.bus = acc := hframe.bus
    rw [hbus]
    exact ⟨hframe.memory, hframe.events, hframe.draws, hlen, hwrites, hframe.launch⟩

/-! ## The profile is read by no register, port or stack operation -/

section withProfile
variable (s : State) (p : FlagProfile)

@[simp] theorem withProfile_A : (s.withProfile p).A = s.A := rfl
@[simp] theorem withProfile_C : (s.withProfile p).C = s.C := rfl
@[simp] theorem withProfile_SP : (s.withProfile p).SP = s.SP := rfl
@[simp] theorem withProfile_PC : (s.withProfile p).PC = s.PC := rfl
@[simp] theorem withProfile_HL : (s.withProfile p).HL = s.HL := rfl
@[simp] theorem withProfile_flagZ : (s.withProfile p).flagZ = s.flagZ := rfl
@[simp] theorem withProfile_flagC : (s.withProfile p).flagC = s.flagC := rfl

@[simp] theorem withProfile_reg (r : Reg8) : (s.withProfile p).reg r = s.reg r := by cases r <;> rfl
@[simp] theorem withProfile_pair (rr : Reg16) : (s.withProfile p).pair rr = s.pair rr := by cases rr <;> rfl
@[simp] theorem withProfile_stackPair (qq : StackReg) : (s.withProfile p).stackPair qq = s.stackPair qq := by
  cases qq <;> rfl
@[simp] theorem withProfile_indAddr (q : IndPtr) : (s.withProfile p).indAddr q = s.indAddr q := by cases q <;> rfl
@[simp] theorem withProfile_cond (cc : Cond) : (s.withProfile p).cond cc = s.cond cc := by cases cc <;> rfl

@[simp] theorem withProfile_portValue (a : Addr) : (s.withProfile p).portValue a = s.portValue a := rfl
@[simp] theorem withProfile_popValue : (s.withProfile p).popValue = s.popValue := rfl
@[simp] theorem withProfile_relTarget (e : Byte) : relTarget e (s.withProfile p) = relTarget e s := rfl

@[simp] theorem withProfile_writeF (v : Byte) : (s.withProfile p).writeF v = (s.writeF v).withProfile p := rfl
@[simp] theorem withProfile_setHL (v : Addr) : (s.withProfile p).setHL v = (s.setHL v).withProfile p := rfl
@[simp] theorem withProfile_goto (t : Addr) : (s.withProfile p).goto t = (s.goto t).withProfile p := rfl
@[simp] theorem withProfile_setReg (r : Reg8) (v : Byte) :
    (s.withProfile p).setReg r v = (s.setReg r v).withProfile p := by cases r <;> rfl
@[simp] theorem withProfile_setPair (rr : Reg16) (v : Addr) :
    (s.withProfile p).setPair rr v = (s.setPair rr v).withProfile p := by cases rr <;> rfl
@[simp] theorem withProfile_setStackPair (qq : StackReg) (v : Addr) :
    (s.withProfile p).setStackPair qq v = (s.setStackPair qq v).withProfile p := by cases qq <;> rfl
@[simp] theorem withProfile_indAdjust (q : IndPtr) :
    (s.withProfile p).indAdjust q = (s.indAdjust q).withProfile p := by cases q <;> rfl

@[simp] theorem withProfile_afterRead (a : Addr) :
    (s.withProfile p).afterRead a = (s.afterRead a).withProfile p := rfl
@[simp] theorem withProfile_writeByte (a : Addr) (v : Byte) :
    (s.withProfile p).writeByte a v = (s.writeByte a v).withProfile p := rfl
@[simp] theorem withProfile_writeWord (a v : Addr) :
    (s.withProfile p).writeWord a v = (s.writeWord a v).withProfile p := rfl
@[simp] theorem withProfile_stackPush (v : Addr) :
    (s.withProfile p).stackPush v = (s.stackPush v).withProfile p := rfl
@[simp] theorem withProfile_afterPop : (s.withProfile p).afterPop = s.afterPop.withProfile p := rfl
@[simp] theorem withProfile_aluWith (op : AluOp) (b : Byte) :
    (s.withProfile p).aluWith op b = (s.aluWith op b).withProfile p := rfl

end withProfile

/-! ## Meanings that do not read the profile -/

/-- `f` answers the same under either profile, but for the profile of the next state (D8). -/
def ProfileFree (f : State → Result) : Prop :=
  ∀ (s : State) (p : FlagProfile), f (s.withProfile p) = mapNext (fun t => t.withProfile p) (f s)

/-- A meaning whose one next state moves with the profile. -/
theorem ProfileFree.next {g : State → State} (h : ∀ s p, g (s.withProfile p) = (g s).withProfile p) :
    ProfileFree (fun s => .next (g s)) := fun s p => congrArg Host.Outcome.next (h s p)

theorem ProfileFree.ifTaken {f : State → Result} (cc : Cond) (h : ProfileFree f) :
    ProfileFree (fun s => if s.cond cc then f s else .next s) := by
  intro s p
  simp only [withProfile_cond]
  split
  · exact h s p
  · rfl

theorem profileFree_ret : ProfileFree ret := .next fun _ _ => by simp

theorem profileFree_callTo (t : Addr) : ProfileFree (callTo t) := .next fun _ _ => by simp

theorem profileFree_rotReg (op : RotOp) (r : Reg8) : ProfileFree (rotReg op r) := .next fun _ _ => by simp

theorem profileFree_rotAtHL (op : RotOp) : ProfileFree (rotAtHL op) := .next fun _ _ => by simp

theorem profileFree_bitReg (kind : BitKind) (i : Byte) (r : Reg8) : ProfileFree (bitReg kind i r) := by
  intro s p
  unfold bitReg
  rw [withProfile_reg]
  split
  · rfl
  · cases kind <;> simp [mapNext]

theorem profileFree_bitAtHL (kind : BitKind) (i : Byte) : ProfileFree (bitAtHL kind i) := by
  intro s p
  unfold bitAtHL
  rw [withProfile_HL, withProfile_portValue]
  split
  · rfl
  · cases kind <;> simp [mapNext]

theorem profileFree_prefixed (cb : Byte) : ProfileFree (prefixed cb) := by
  intro s p
  unfold prefixed
  split
  · exact profileFree_rotReg _ _ s p
  · exact profileFree_rotAtHL _ s p
  · exact profileFree_bitReg _ _ _ s p
  · exact profileFree_bitAtHL _ _ s p
  · exact profileFree_bitReg _ _ _ s p
  · exact profileFree_bitAtHL _ _ s p
  · exact profileFree_bitReg _ _ _ s p
  · exact profileFree_bitAtHL _ _ s p

/-- Outside the opcodes R5 names the meaning of a row does not read the profile. -/
theorem Meaning.profileFree {i : Instr} {f : State → Result} (h : Meaning i f)
    (hi : (encode i).headD 0 ∉ profileOpcodes) : ProfileFree f := by
  cases h with
  | daa | rlca | rrca | rla | rra => exact absurd (by decide) hi
  | add_SP_e8 => exact absurd (show (0xE8 : Byte) ∈ profileOpcodes by decide) hi
  | ld_HL_SPe8 => exact absurd (show (0xF8 : Byte) ∈ profileOpcodes by decide) hi
  | rotReg op r => exact profileFree_rotReg op r
  | rotAtHL op => exact profileFree_rotAtHL op
  | testReg b r | resetReg b r | setReg b r => exact profileFree_bitReg _ _ r
  | testAtHL | resetAtHL | setAtHL => exact profileFree_bitAtHL _ _
  | prefix_CB cb => exact profileFree_prefixed cb
  | jpIf cc nn => exact .ifTaken cc (.next fun _ _ => by simp)
  | jrIf cc e => exact .ifTaken (f := fun s => jumpTo (relTarget e s) s) cc (.next fun _ _ => by simp)
  | call_a16 | rst => exact profileFree_callTo _
  | callIf cc nn => exact .ifTaken cc (profileFree_callTo nn)
  | ret => exact profileFree_ret
  | retIf cc => exact .ifTaken cc profileFree_ret
  | outOfScope | illegal => exact fun _ _ => rfl
  | ld_SP_HL => exact .next fun _ _ => rfl
  | _ => exact .next fun _ _ => by simp

/-- Settles O60: outside the opcodes R5 names, the meaning `exec` runs does not read the profile. -/
theorem profilesAgreeElsewhere : Obligations.ProfilesAgreeElsewhere := by
  unfold Obligations.ProfilesAgreeElsewhere
  intro i s p hi
  obtain ⟨f, hf⟩ := exists_meaning i
  rw [hf.exec_eq, hf.exec_eq]
  exact hf.profileFree hi s p

end Sys2Proof.Machine

/-! The family 10_state: the register views and the dispatch port (O1, O3, O4, O5), the registers an instruction writes (O59),
and the invariant of the step (O56). -/

namespace Sys2Proof.Machine

/-! ## Bytes of a word, and the mask of F (spec/10_state.md R21, R23) -/

theorem hiByte_toNat (v : Addr) : (hiByte v).toNat = v.toNat / 256 := by
  have := v.isLt
  simp only [hiByte, BitVec.toNat_setWidth, BitVec.toNat_ushiftRight, Nat.shiftRight_eq_div_pow]
  omega

theorem loByte_toNat (v : Addr) : (loByte v).toNat = v.toNat % 256 := by
  simp [loByte]

theorem word16_and (a b c d : Byte) : word16 a b &&& word16 c d = word16 (a &&& c) (b &&& d) := by
  ext i hi
  simp only [word16]
  grind

/-- AF as a write of `v` leaves it. -/
theorem word16_maskedLow (v : Addr) : word16 (hiByte v) (loByte v &&& 0xF0) = v &&& 0xFFF0 := by
  calc word16 (hiByte v) (loByte v &&& 0xF0)
    _ = word16 (hiByte v &&& 0xFF) (loByte v &&& 0xF0) := congrArg (word16 · _) BitVec.and_allOnes.symm
    _ = word16 (hiByte v) (loByte v) &&& word16 0xFF 0xF0 := (word16_and _ _ _ _).symm
    _ = v &&& 0xFFF0 := by rw [Laws.word16_hi_lo]; rfl

theorem highNibble_eq_shifts (b : Byte) : b &&& (0xF0 : Byte) = (b >>> 4) <<< 4 := by
  ext i hi
  interval_cases i <;> simp

theorem highNibble_toNat (b : Byte) : (b &&& 0xF0).toNat = b.toNat / 16 * 16 := by
  have := b.isLt
  rw [highNibble_eq_shifts]
  simp only [BitVec.toNat_shiftLeft, BitVec.toNat_ushiftRight, Nat.shiftRight_eq_div_pow, Nat.shiftLeft_eq]
  omega

theorem highNibble_idem (b : Byte) : b &&& 0xF0 &&& 0xF0 = b &&& 0xF0 := by
  rw [BitVec.and_assoc, BitVec.and_self]

theorem flagByte_bits : ∀ z n h c : Bool,
    (flagByte z n h c).getLsbD 7 = z ∧ (flagByte z n h c).getLsbD 6 = n ∧ (flagByte z n h c).getLsbD 5 = h ∧
      (flagByte z n h c).getLsbD 4 = c := by decide

/-! ## Reset, the views and the dispatch port -/

/-- Settles O1: every field of the power-on state is its literal, and memory is the image. -/
theorem resetHoldsSpecValues : Obligations.ResetHoldsSpecValues := by
  unfold Obligations.ResetHoldsSpecValues
  intro p image
  refine ⟨?_, ?_, rfl, rfl, rfl, fun _ => rfl⟩
  · simp [State.powerOn, State.value, State.readF]
  · simp [State.powerOn, State.portGet, State.AF, State.BC, State.DE, State.HL, State.readF, word16]

theorem State.setAF_AF (s : State) (v : Addr) : (s.setAF v).AF = v &&& 0xFFF0 := by
  simp only [State.AF, State.readF, State.setAF_A, State.setAF_F, highNibble_idem, word16_maskedLow]

/-- Settles O3: `word16` puts two bytes together and `hiByte` and `loByte` take it apart; F's byte is masked. -/
theorem pairViewsAreTheBytes : Obligations.PairViewsAreTheBytes := by
  unfold Obligations.PairViewsAreTheBytes
  intro s v
  have hread (hi lo : Byte) : (word16 hi lo).toNat = 256 * hi.toNat + lo.toNat := by
    rw [Laws.word16_toNat, Nat.mul_comm]
  have hwrite : (hiByte v).toNat = v.toNat / 256 ∧ (loByte v).toNat = v.toNat % 256 ∧ word16 (hiByte v) (loByte v) = v :=
    ⟨hiByte_toNat v, loByte_toNat v, Laws.word16_hi_lo v⟩
  have hF : (s.setAF v).F.toNat = v.toNat % 256 / 16 * 16 := by
    rw [State.setAF_F, highNibble_toNat, loByte_toNat]
  exact ⟨⟨hread _ _, hread _ _, hread _ _, hread _ _⟩, hwrite, hwrite, hwrite, hiByte_toNat v, hF, State.setAF_AF s v⟩

/-- A byte register through the port keeps bits 7:0 (log entry 17). -/
theorem loByte_setWidth (v : Addr) : (loByte v).setWidth 16 = v &&& 0x00FF := by
  ext i hi
  interval_cases i <;> simp [loByte]

/-- F through the port keeps bits 7:4 (D20). -/
theorem loByte_masked_setWidth (v : Addr) : (loByte v &&& 0xF0).setWidth 16 = v &&& 0x00F0 := by
  rw [BitVec.setWidth_and, loByte_setWidth, BitVec.and_assoc]
  rfl

theorem frame_portSet_one (s : State) (r : RegName) (v : Addr) : Frame [r] [] s (s.portSet (.one r) v) := by
  cases r with
  | A => exact frame_setReg s .A _
  | F => exact frame_writeF s _
  | B => exact frame_setReg s .B _
  | C => exact frame_setReg s .C _
  | D => exact frame_setReg s .D _
  | E => exact frame_setReg s .E _
  | H => exact frame_setReg s .H _
  | L => exact frame_setReg s .L _
  | SP => exact frame_setSP s v
  | PC => exact frame_goto s v

/-- Settles O4: the port's set of a register or a pair is the multiplexer's write of it, whose frame is known. -/
theorem dispatchPortSetThenGet : Obligations.DispatchPortSetThenGet := by
  unfold Obligations.DispatchPortSetThenGet
  intro s v
  have hview : word16 (hiByte v) (loByte v) = v := Laws.word16_hi_lo v
  have hF : ((loByte v &&& 0xF0) &&& 0xF0).setWidth 16 = v &&& 0x00F0 := by
    rw [highNibble_idem, loByte_masked_setWidth]
  refine ⟨fun r => ?_, fun r => frame_portSet_one s r v,
    ⟨State.setAF_AF s v, frame_setStackPair s .AF v⟩, ⟨hview, frame_setStackPair s .BC v⟩,
    ⟨hview, frame_setStackPair s .DE v⟩, hview, frame_setStackPair s .HL v⟩
  cases r with
  | SP | PC => rfl
  | F => exact hF
  | _ => exact loByte_setWidth v

/-- Settles O5: the flag byte's bits stand above the mask of F's writes and reads. -/
theorem flagBitsOfF : Obligations.FlagBitsOfF := by
  unfold Obligations.FlagBitsOfF
  intro s z n h c v
  have hlow (b : Byte) : (b &&& 0xF0).toNat % 16 = 0 := by rw [highNibble_toNat, Nat.mul_mod_left]
  have hhigh : (v &&& 0xF0).toNat / 16 = v.toNat / 16 := by rw [highNibble_toNat, Nat.mul_div_cancel _ (by decide)]
  rw [writeF_flagByte]
  exact ⟨flagByte_bits z n h c, hlow v, hhigh, hlow s.F⟩

/-! ## The next states of the CB operations -/

/-- Where `r` is a next state, it has `P`. -/
def NextHas (P : State → Prop) (r : Result) : Prop := ∀ t, r = .next t → P t

theorem NextHas.next {P : State → Prop} {t : State} (h : P t) : NextHas P (.next t) := by
  rintro _ ⟨⟩
  exact h

theorem NextHas.fault (P : State → Prop) (r : Fault) : NextHas P (.fault r) := nofun

theorem NextHas.refused (P : State → Prop) (r : Refusal) : NextHas P (.refused r) := nofun

theorem NextHas.imp {P Q : State → Prop} {r : Result} (h : NextHas P r) (hPQ : ∀ t, P t → Q t) : NextHas Q r :=
  fun t ht => hPQ t (h t ht)

/-- A conditional transfer leads where the transfer does, or stays. -/
theorem NextHas.ifTaken {P : State → Prop} {s : State} {r : Result} (c : Bool) (h : NextHas P r) (hs : P s) :
    NextHas P (if c then r else .next s) := by
  split
  · exact h
  · exact .next hs

/-- All that a CB operation called at `s` can lead to: the bit test, the bit write and the rotate, of a register and of the
byte at HL. -/
inductive CbNext (s : State) : State → Prop
  | testReg (f : Byte) : CbNext s (s.writeF f)
  | writeReg (r : Reg8) (v : Byte) : CbNext s (s.setReg r v)
  | rotReg (r : Reg8) (v f : Byte) : CbNext s ((s.setReg r v).writeF f)
  | testAtHL (f : Byte) : CbNext s ((s.afterRead s.HL).writeF f)
  | writeAtHL (v : Byte) : CbNext s ((s.afterRead s.HL).writeByte s.HL v)
  | rotAtHL (v f : Byte) : CbNext s (((s.afterRead s.HL).writeByte s.HL v).writeF f)

theorem cbNext_rotReg (op : RotOp) (r : Reg8) (s : State) : NextHas (CbNext s) (rotReg op r s) := .next (.rotReg r _ _)

theorem cbNext_rotAtHL (op : RotOp) (s : State) : NextHas (CbNext s) (rotAtHL op s) := .next (.rotAtHL _ _)

/-- For any index byte: one above 7 faults. -/
theorem cbNext_bitReg (kind : BitKind) (i : Byte) (r : Reg8) (s : State) : NextHas (CbNext s) (bitReg kind i r s) := by
  unfold bitReg
  split
  · exact .fault _ _
  · cases kind with
    | TEST => exact .next (.testReg _)
    | SET | RESET => exact .next (.writeReg r _)

theorem cbNext_bitAtHL (kind : BitKind) (i : Byte) (s : State) : NextHas (CbNext s) (bitAtHL kind i s) := by
  unfold bitAtHL
  split
  · exact .fault _ _
  · cases kind with
    | TEST => exact .next (.testAtHL _)
    | SET | RESET => exact .next (.writeAtHL _)

theorem cbNext_prefixed (cb : Byte) (s : State) : NextHas (CbNext s) (prefixed cb s) := by
  unfold prefixed
  split
  · exact cbNext_rotReg _ _ s
  · exact cbNext_rotAtHL _ s
  · exact cbNext_bitReg _ _ _ s
  · exact cbNext_bitAtHL _ _ s
  · exact cbNext_bitReg _ _ _ s
  · exact cbNext_bitAtHL _ _ s
  · exact cbNext_bitReg _ _ _ s
  · exact cbNext_bitAtHL _ _ s

/-! ## The instructions that write PC and SP (spec/10_state.md R27, R28) -/

section pointers
variable (s : State)

@[simp] theorem State.aluWith_PC (op : AluOp) (b : Byte) : (s.aluWith op b).PC = s.PC := rfl
@[simp] theorem State.aluWith_SP (op : AluOp) (b : Byte) : (s.aluWith op b).SP = s.SP := rfl
@[simp] theorem State.indAdjust_PC (p : IndPtr) : (s.indAdjust p).PC = s.PC := by cases p <;> rfl
@[simp] theorem State.indAdjust_SP (p : IndPtr) : (s.indAdjust p).SP = s.SP := by cases p <;> rfl
@[simp] theorem State.writeWord_PC (a v : Addr) : (s.writeWord a v).PC = s.PC := rfl
@[simp] theorem State.writeWord_SP (a v : Addr) : (s.writeWord a v).SP = s.SP := rfl
@[simp] theorem State.stackPush_PC (v : Addr) : (s.stackPush v).PC = s.PC := rfl
@[simp] theorem State.afterPop_PC : s.afterPop.PC = s.PC := rfl

theorem State.setPair_SP {rr : Reg16} (h : rr ≠ .SP) (v : Addr) : (s.setPair rr v).SP = s.SP := by
  cases rr with
  | SP => exact absurd rfl h
  | _ => rfl

end pointers

/-- From `s` to `t` the instruction with the opcode `op` writes PC and SP only as R28 and R27 list it. -/
structure PointersAsListed (op : Byte) (s t : State) : Prop where
  pc : op ∈ transferOpcodes ∨ t.PC = s.PC
  sp : op ∈ stackPointerOpcodes ∨ t.SP = s.SP

theorem PointersAsListed.kept {op : Byte} {s t : State} (hpc : t.PC = s.PC) (hsp : t.SP = s.SP) :
    PointersAsListed op s t := ⟨.inr hpc, .inr hsp⟩

theorem CbNext.pointersAsListed {s t : State} (h : CbNext s t) (op : Byte) : PointersAsListed op s t := by
  cases h <;> exact .kept (by simp) (by simp)

theorem pointersAsListed_jumpTo {op : Byte} (hop : op ∈ transferOpcodes) (t : Addr) (s : State) :
    NextHas (PointersAsListed op s) (jumpTo t s) := .next ⟨.inl hop, .inr rfl⟩

theorem PointersAsListed.listed {op : Byte} (hpc : op ∈ transferOpcodes) (hsp : op ∈ stackPointerOpcodes) (s t : State) :
    PointersAsListed op s t := ⟨.inl hpc, .inl hsp⟩

theorem pointersAsListed_setPair {op : Byte} {rr : Reg16} (hop : rr = .SP → op ∈ stackPointerOpcodes) (s : State)
    (v : Addr) : PointersAsListed op s (s.setPair rr v) := by
  refine ⟨.inr (by simp), ?_⟩
  by_cases h : rr = .SP
  · exact .inl (hop h)
  · exact .inr (s.setPair_SP h v)

/-- R28 and R27 over every row: an opcode is on the lists, by evaluation, wherever its meaning names PC or SP. -/
theorem Meaning.pointersAsListed {i : Instr} {f : State → Result} (h : Meaning i f) (s : State) :
    NextHas (PointersAsListed ((encode i).headD 0) s) (f s) := by
  have listed {op : Byte} {l : List Byte} (h : l.elem op = true) : op ∈ l := List.mem_of_elem_eq_true h
  have same {op : Byte} : PointersAsListed op s s := .kept rfl rfl
  cases h with
  | jp_a16 | jp_HL | jr_e8 => exact pointersAsListed_jumpTo (listed rfl) _ s
  | jpIf cc | jrIf cc => exact .ifTaken _ (pointersAsListed_jumpTo (listed (by cases cc <;> rfl)) _ s) same
  | call_a16 | ret => exact .next (.listed (listed rfl) (listed rfl) s _)
  | rst t => exact .next (.listed (listed (by cases t <;> rfl)) (listed (by cases t <;> rfl)) s _)
  | callIf cc | retIf cc =>
    exact .ifTaken _ (.next (.listed (listed (by cases cc <;> rfl)) (listed (by cases cc <;> rfl)) s _)) same
  | push qq | pop qq => exact .next ⟨.inr (by simp), .inl (listed (by cases qq <;> rfl))⟩
  | ldPair rr | incPair rr | decPair rr =>
    exact .next (pointersAsListed_setPair (fun hrr => by subst hrr; exact listed rfl) s _)
  | ld_SP_HL | add_SP_e8 => exact .next ⟨.inr rfl, .inl (listed rfl)⟩
  | rotReg op r => exact (cbNext_rotReg op r s).imp fun _ ht => ht.pointersAsListed _
  | rotAtHL op => exact (cbNext_rotAtHL op s).imp fun _ ht => ht.pointersAsListed _
  | testReg b r | resetReg b r | setReg b r => exact (cbNext_bitReg _ _ r s).imp fun _ ht => ht.pointersAsListed _
  | testAtHL | resetAtHL | setAtHL => exact (cbNext_bitAtHL _ _ s).imp fun _ ht => ht.pointersAsListed _
  | prefix_CB cb => exact (cbNext_prefixed cb s).imp fun _ ht => ht.pointersAsListed _
  | outOfScope => exact .refused _ _
  | illegal => exact .fault _ _
  | _ => exact .next (.kept (by simp) (by simp))

/-- Settles O59: the meaning `exec` runs writes PC and SP only where the opcode is listed. -/
theorem onlyListedOpcodesWritePCAndSP : Obligations.OnlyListedOpcodesWritePCAndSP := by
  unfold Obligations.OnlyListedOpcodesWritePCAndSP
  intro i s t hexec
  obtain ⟨f, hf⟩ := exists_meaning i
  rw [hf.exec_eq] at hexec
  obtain ⟨hpc, hsp⟩ := hf.pointersAsListed s t hexec
  exact ⟨hpc.resolve_left, hsp.resolve_left⟩

/-! ## The canonical form of memory and F, kept by every update of the state (spec/10_state.md R23) -/

/-- The part of `State.Inv` about memory and F. -/
structure State.Canonical (s : State) : Prop where
  memory : Memory.wf s.mem = true
  flags : s.F &&& 0x0F = 0

theorem highNibble_and_lowNibble (b : Byte) : b &&& 0xF0 &&& 0x0F = 0 := by
  rw [BitVec.and_assoc]
  exact BitVec.and_zero

namespace State.Canonical
variable {s : State} (hs : s.Canonical)
include hs

theorem afterRead (a : Addr) : (s.afterRead a).Canonical := ⟨hs.memory, hs.flags⟩

theorem writeByte (a : Addr) (v : Byte) : (s.writeByte a v).Canonical := ⟨Memory.wf_set v a.isLt hs.memory, hs.flags⟩

theorem writeF (v : Byte) : (s.writeF v).Canonical := ⟨hs.memory, highNibble_and_lowNibble v⟩

theorem setReg (r : Reg8) (v : Byte) : (s.setReg r v).Canonical := by
  constructor
  · simpa using hs.memory
  · simpa using hs.flags

theorem setPair (rr : Reg16) (v : Addr) : (s.setPair rr v).Canonical := by
  constructor
  · simpa using hs.memory
  · simpa using hs.flags

theorem setStackPair (qq : StackReg) (v : Addr) : (s.setStackPair qq v).Canonical := by
  cases qq with
  | AF => exact ⟨hs.memory, highNibble_and_lowNibble _⟩
  | BC | DE | HL => exact ⟨hs.memory, hs.flags⟩

theorem setHL (v : Addr) : (s.setHL v).Canonical := hs.setPair .HL v

theorem setSP (v : Addr) : { s with SP := v }.Canonical := hs.setPair .SP v

theorem goto (t : Addr) : (s.goto t).Canonical := ⟨hs.memory, hs.flags⟩

theorem aluWith (op : AluOp) (b : Byte) : (s.aluWith op b).Canonical := (hs.setReg .A _).writeF _

theorem indAdjust (p : IndPtr) : (s.indAdjust p).Canonical := by
  cases p with
  | BC | DE => exact hs
  | HLinc | HLdec => exact hs.setHL _

theorem writeWord (a v : Addr) : (s.writeWord a v).Canonical := (hs.writeByte a _).writeByte (a + 1) _

theorem pushByte (v : Byte) : (s.pushByte v).Canonical := (hs.setSP _).writeByte _ v

theorem stackPush (v : Addr) : (s.stackPush v).Canonical := (hs.pushByte _).pushByte _

theorem afterPopByte : s.afterPopByte.Canonical := (hs.afterRead _).setSP _

theorem afterPop : s.afterPop.Canonical := hs.afterPopByte.afterPopByte

theorem ofCbNext {t : State} (h : CbNext s t) : t.Canonical := by
  cases h with
  | testReg f => exact hs.writeF f
  | writeReg r v => exact hs.setReg r v
  | rotReg r v f => exact (hs.setReg r v).writeF f
  | testAtHL f => exact (hs.afterRead _).writeF f
  | writeAtHL v => exact (hs.afterRead _).writeByte _ v
  | rotAtHL v f => exact ((hs.afterRead _).writeByte _ v).writeF f

/-- The meaning of every row is made of updates that keep the form. -/
theorem ofMeaning {i : Instr} {f : State → Result} (h : Meaning i f) : NextHas State.Canonical (f s) := by
  cases h with
  | ldReg d | ldImm d => exact .next (hs.setReg d _)
  | ldFromHL d => exact .next ((hs.afterRead _).setReg d _)
  | ld_A_a16 | ldh_A_a8 | ld_A_atC => exact .next ((hs.afterRead _).setReg .A _)
  | ldToHL | ld_atHL_d8 | ld_a16_A | ldh_a8_A | ld_atC_A => exact .next (hs.writeByte _ _)
  | ldAInd p => exact .next (((hs.afterRead _).setReg .A _).indAdjust p)
  | ldIndA p => exact .next ((hs.writeByte _ _).indAdjust p)
  | ldPair rr | incPair rr | decPair rr => exact .next (hs.setPair rr _)
  | ld_a16_SP nn => exact .next (hs.writeWord nn _)
  | ld_SP_HL => exact .next (hs.setSP _)
  | ld_HL_SPe8 | addHL => exact .next ((hs.setHL _).writeF _)
  | push => exact .next (hs.stackPush _)
  | pop qq => exact .next (hs.afterPop.setStackPair qq _)
  | aluReg op | aluImm op => exact .next (hs.aluWith op _)
  | aluAtHL op => exact .next ((hs.afterRead _).aluWith op _)
  | incReg r | decReg r => exact .next ((hs.setReg r _).writeF _)
  | inc_atHL | dec_atHL => exact .next (((hs.afterRead _).writeByte _ _).writeF _)
  | add_SP_e8 => exact .next ((hs.setSP _).writeF _)
  | rlca | rrca | rla | rra | daa | cpl => exact .next ((hs.setReg .A _).writeF _)
  | ccf | scf => exact .next (hs.writeF _)
  | rotReg op r => exact (cbNext_rotReg op r s).imp fun _ => hs.ofCbNext
  | rotAtHL op => exact (cbNext_rotAtHL op s).imp fun _ => hs.ofCbNext
  | testReg b r | resetReg b r | setReg b r => exact (cbNext_bitReg _ _ r s).imp fun _ => hs.ofCbNext
  | testAtHL | resetAtHL | setAtHL => exact (cbNext_bitAtHL _ _ s).imp fun _ => hs.ofCbNext
  | prefix_CB cb => exact (cbNext_prefixed cb s).imp fun _ => hs.ofCbNext
  | jp_a16 | jp_HL | jr_e8 => exact .next (hs.goto _)
  | jpIf | jrIf => exact .ifTaken _ (.next (hs.goto _)) hs
  | call_a16 | rst => exact .next ((hs.stackPush _).goto _)
  | callIf => exact .ifTaken _ (.next ((hs.stackPush _).goto _)) hs
  | ret => exact .next (hs.afterPop.goto _)
  | retIf => exact .ifTaken _ (.next (hs.afterPop.goto _)) hs
  | nop => exact .next hs
  | outOfScope => exact .refused _ _
  | illegal => exact .fault _ _

theorem ofFetchOperands (op : Byte) : (fetchOperands op s).2.2.Canonical := by
  unfold fetchOperands
  split
  · exact hs
  · exact hs.afterRead _
  · exact (hs.afterRead _).afterRead _

theorem ofFetch : (fetch s).2.Canonical := ((hs.afterRead s.PC).ofFetchOperands _).goto _

theorem ofStep {t : State} (h : step s = .next t) : t.Canonical := by
  have hbegin : s.beginStep.Canonical := ⟨hs.memory, hs.flags⟩
  obtain ⟨-, ⟨-, rfl⟩ | ⟨-, hexec⟩⟩ := step_next_cases h
  · exact ⟨hs.memory, hs.flags⟩
  · obtain ⟨f, hf⟩ := exists_meaning (fetch s.beginStep).1
    rw [hf.exec_eq] at hexec
    exact hbegin.ofFetch.ofMeaning hf t hexec

end State.Canonical

/-! ## The invariant of the step (O56) -/

theorem State.ioAt_imp {s : State} {a : Addr} (h : s.ioAt a = true) :
    s.launch.ioReads ≠ .RAM ∧ ioBase.toNat ≤ a.toNat := by
  unfold State.ioAt at h
  split at h
  · cases h
  · rename_i hio
    exact ⟨by simp [hio], of_decide_eq_true h⟩

/-- Settles O56: memory and F stay canonical through every update, and the records are those of the step's bus (O57), whose
accesses at 0xFF00-0xFFFF under ORACLE are the events and whose reads there are the draws. -/
theorem stepKeepsInvariant : Obligations.StepKeepsInvariant := by
  unfold Obligations.StepKeepsInvariant
  intro s t ⟨hmem, hF, haddr, hdraws, hram⟩ hstep
  obtain ⟨hmem', hF'⟩ := State.Canonical.ofStep ⟨hmem, hF⟩ hstep
  obtain ⟨-, hevents', hdraws', -, -, hlaunch'⟩ := stepEffectsAreItsBusAccesses s t hstep
  refine ⟨hmem', hF', ?_, ?_, ?_⟩
  · intro e he
    rw [hevents', List.mem_append, List.mem_filter] at he
    obtain hold | ⟨-, hnew⟩ := he
    · exact haddr e hold
    · exact (State.ioAt_imp hnew).2
  · rw [hdraws', hevents', hdraws, List.filter_append, List.length_append, List.filter_filter]
  · intro hio
    rw [hlaunch'] at hio
    rw [hevents', hram hio, List.nil_append, List.filter_eq_nil_iff]
    exact fun x _ hx => (State.ioAt_imp hx).1 hio

end Sys2Proof.Machine

/-! The family 20_memory: a read after a write (O6) and the 16-bit accesses (O8). -/

namespace Sys2Proof.Machine

/-! ## A read after a write (spec/20_memory.md R41, R42) -/

theorem State.ioAt_iff {s : State} {a : Addr} :
    s.ioAt a = true ↔ s.launch.ioReads = .ORACLE ∧ 0xFF00 ≤ a.toNat := by
  constructor
  · intro h
    obtain ⟨hio, ha⟩ := State.ioAt_imp h
    refine ⟨?_, ha⟩
    cases hr : s.launch.ioReads with
    | RAM => exact absurd hr hio
    | ORACLE => rfl
  · exact fun ⟨hio, ha⟩ => State.ioAt_eq_true hio ha

theorem State.ioAt_writeByte (s : State) (a b : Addr) (v : Byte) : (s.writeByte a v).ioAt b = s.ioAt b :=
  State.ioAt_congr (State.writeByte_launch s a v) b

/-- A write takes no draw and moves no IO window: where a read is a draw, it stays the same one. -/
theorem State.portValue_writeByte_of_ioAt {s : State} {b : Addr} (h : s.ioAt b = true) (a : Addr) (v : Byte) :
    (s.writeByte a v).portValue b = Config.freeByte s.draws :=
  (port_of_ioAt ((State.ioAt_writeByte s a b v).trans h) v).1

theorem State.portValue_writeByte_of_not_ioAt {s : State} {b : Addr} (h : s.ioAt b = false) (a : Addr) (v : Byte) :
    (s.writeByte a v).portValue b = if b = a then v else s.portValue b := by
  rw [(port_of_not_ioAt ((State.ioAt_writeByte s a b v).trans h) v).1, (port_of_not_ioAt h v).1, State.peek_writeByte]

/-- Settles O6: by whether a read of `b` is a draw, which a write does not change. -/
theorem readReturnsLastWrite : Obligations.ReadReturnsLastWrite := by
  unfold Obligations.ReadReturnsLastWrite
  intro s a b v
  by_cases hdraw : s.launch.ioReads = .ORACLE ∧ 0xFF00 ≤ b.toNat
  · rw [if_pos hdraw]
    exact State.portValue_writeByte_of_ioAt (State.ioAt_iff.mpr hdraw) a v
  · rw [if_neg hdraw]
    exact State.portValue_writeByte_of_not_ioAt (Bool.eq_false_iff.mpr (mt State.ioAt_iff.mp hdraw)) a v

/-! ## The 16-bit accesses (spec/20_memory.md R45, R55) -/

theorem frame_afterReadWord (s : State) (a : Addr) :
    Frame [] [.read a (s.portValue a), .read (a + 1) ((s.afterRead a).portValue (a + 1))] s (s.afterReadWord a) :=
  (frame_afterRead s a).trans (frame_afterRead _ (a + 1))

theorem loByte_eq_ofNat (v : Addr) : loByte v = BitVec.ofNat 8 (v.toNat % 256) := by
  rw [← loByte_toNat, BitVec.ofNat_toNat, BitVec.setWidth_eq]

theorem hiByte_eq_ofNat (v : Addr) : hiByte v = BitVec.ofNat 8 (v.toNat / 256) := by
  rw [← hiByte_toNat, BitVec.ofNat_toNat, BitVec.setWidth_eq]

/-- Settles O8: each 16-bit access is two byte accesses, whose frames compose, and `word16` is 256 * high + low. -/
theorem wordAccessesAreLittleEndian : Obligations.WordAccessesAreLittleEndian := by
  unfold Obligations.WordAccessesAreLittleEndian
  intro s a v
  have hvalue : (s.portWord a).toNat = 256 * ((s.afterRead a).portValue (a + 1)).toNat + (s.portValue a).toNat := by
    rw [State.portWord, Laws.word16_toNat, Nat.mul_comm]
  rw [← loByte_eq_ofNat, ← hiByte_eq_ofNat]
  exact ⟨hvalue, frame_afterReadWord s a, frame_writeWord s a v⟩

end Sys2Proof.Machine

/-! The family 30_encoding: the round trip of encode and decode (O53), the decoder on every opcode (O54), the byte 0xCB
(O50), the step of a fetched instruction (O51) and words of the opcode maps (O55). -/

namespace Sys2Proof.Laws

/-! ## The round trip over all of Instr -/

/-- The family RoundTrip for every row at once: the row of 0xCB itself is ill-formed, an imm16 is put together of its
two bytes, and the bytes of any other row evaluate. -/
theorem roundTrip (i : Instr) : RoundTrip.Statement i := by
  cases i with
  | prefix_CB cb => exact RoundTrip.prefix_CB cb
  | ld_A_a16 nn => exact RoundTrip.ld_A_a16 nn
  | ld_a16_A nn => exact RoundTrip.ld_a16_A nn
  | ld_a16_SP nn => exact RoundTrip.ld_a16_SP nn
  | ld_BC_d16 nn => exact RoundTrip.ld_BC_d16 nn
  | ld_DE_d16 nn => exact RoundTrip.ld_DE_d16 nn
  | ld_HL_d16 nn => exact RoundTrip.ld_HL_d16 nn
  | ld_SP_d16 nn => exact RoundTrip.ld_SP_d16 nn
  | jp_a16 nn => exact RoundTrip.jp_a16 nn
  | jp_NZ_a16 nn => exact RoundTrip.jp_NZ_a16 nn
  | jp_Z_a16 nn => exact RoundTrip.jp_Z_a16 nn
  | jp_NC_a16 nn => exact RoundTrip.jp_NC_a16 nn
  | jp_C_a16 nn => exact RoundTrip.jp_C_a16 nn
  | call_a16 nn => exact RoundTrip.call_a16 nn
  | call_NZ_a16 nn => exact RoundTrip.call_NZ_a16 nn
  | call_Z_a16 nn => exact RoundTrip.call_Z_a16 nn
  | call_NC_a16 nn => exact RoundTrip.call_NC_a16 nn
  | call_C_a16 nn => exact RoundTrip.call_C_a16 nn
  | _ => exact RoundTrip.roundTrip_fixed _ fun _ => rfl

theorem decode_encode {i : Instr} (hwf : i.wf = true) (rest : List Byte) : decode (encode i ++ rest) = .ok (i, rest) :=
  roundTrip i hwf rest

/-- All that a list which decodes can be: an opcode, as many bytes as it has operand bytes, and the bytes left over. -/
theorem decode_eq_ok {bytes rest : List Byte} {i : Instr} (h : decode bytes = .ok (i, rest)) :
    ∃ op operands, bytes = op :: operands ++ rest ∧ operands.length = operandBytes op ∧
      decodeInsn op (operands.getD 0 0) (operands.getD 1 0) = i := by
  unfold decode at h
  split at h
  · cases h
  · rename_i op tail
    split at h
    · rename_i hn
      cases h
      exact ⟨op, [], rfl, hn.symm, rfl⟩
    · rename_i b1 _ hn
      cases h
      exact ⟨op, [b1], rfl, hn.symm, rfl⟩
    · rename_i b1 b2 _ hn
      cases h
      exact ⟨op, [b1, b2], rfl, hn.symm, rfl⟩
    · cases h

/-- The shape of an encoding: an opcode and its operand bytes, which select the instruction (R61-R69). -/
theorem encode_eq_cons {i : Instr} (hwf : i.wf = true) :
    ∃ op operands, encode i = op :: operands ∧ operands.length = operandBytes op ∧
      decodeInsn op (operands.getD 0 0) (operands.getD 1 0) = i := by
  obtain ⟨op, operands, hbytes, hlen, hdec⟩ := decode_eq_ok (decode_encode hwf [])
  rw [List.append_nil, List.append_nil] at hbytes
  exact ⟨op, operands, hbytes, hlen, hdec⟩

/-- Settles O53: the round trip over all rows, and a list that decodes begins with an opcode and its operand bytes. -/
theorem decodeInvertsEncode : Obligations.DecodeInvertsEncode := by
  unfold Obligations.DecodeInvertsEncode
  intro i rest hwf
  obtain ⟨op, operands, henc, hlen, -⟩ := encode_eq_cons hwf
  refine ⟨decode_encode hwf rest, ?_⟩
  rw [henc, List.length_cons, List.headD_cons, hlen, Nat.add_comm]

/-- Settles O55: each word is the encoder's for its row, so decoding inverts it. -/
theorem writtenOutWordsDecode : Obligations.WrittenOutWordsDecode := by
  unfold Obligations.WrittenOutWordsDecode
  exact ⟨decode_encode (i := .ld_B_C) rfl [], decode_encode (i := .ld_A_d8 0x45) rfl [],
    decode_encode (i := .ld_HL_d16 0x0FFF) rfl [], decode_encode (i := .call_a16 0x1234) rfl [],
    decode_encode (i := .bit_7_H) rfl [], decode_encode (i := .res_0_atHL) rfl [],
    decode_encode (i := .jr_NZ_e8 0xFC) rfl [], decode_encode (i := .sbc_A_H) rfl [],
    decode_encode (i := .rl_L) rfl [], decode_encode (i := .halt) rfl [], decode_encode (i := .illegal_DD) rfl []⟩

/-! ## A byte by its fields x, y and z (spec/30_encoding.md R64, R70-R76) -/

/-- The byte with the fields `x` = bits 7:6, `y` = bits 5:3 and `z` = bits 2:0. -/
def byteOf (x : Nat) (y z : Field3) : Byte := BitVec.ofNat 8 (64 * x + 8 * y.toByte.toNat + z.toByte.toNat)

theorem toByte_ofNumber_toNat (n : Nat) : (Field3.ofNumber n).toByte.toNat = n % 8 := by
  have hlt : n % 8 < 8 := Nat.mod_lt n (by decide)
  unfold Field3.ofNumber
  generalize n % 8 = k at hlt
  interval_cases k <;> rfl

theorem byteOf_fields (b : Byte) : byteOf (fieldX b) (fieldY b) (fieldZ b) = b := by
  have := b.isLt
  refine BitVec.eq_of_toNat_eq ?_
  simp only [byteOf, fieldX, fieldY, fieldZ, toByte_ofNumber_toNat, BitVec.toNat_ofNat]
  omega

theorem fieldX_cases (b : Byte) : fieldX b = 0 ∨ fieldX b = 1 ∨ fieldX b = 2 ∨ fieldX b = 3 := by
  have := b.isLt
  unfold fieldX
  omega

/-- The field y as the bit index the handlers take. -/
theorem toByte_fieldY (b : Byte) : (fieldY b).toByte = (b >>> 3) &&& 7 := by
  refine BitVec.eq_of_toNat_eq ?_
  rw [fieldY, toByte_ofNumber_toNat, BitVec.toNat_and, BitVec.toNat_ushiftRight, Nat.shiftRight_eq_div_pow]
  exact (Nat.and_two_pow_sub_one_eq_mod _ 3).symm

/-! ## The decoder is exact: what it answers encodes to the bytes it was given (spec/30_encoding.md R69) -/

/-- `i` is the well-formed row whose encoding is `bytes`. -/
structure IsRowOf (bytes : List Byte) (i : Instr) : Prop where
  wf : i.wf = true
  encode_eq : encode i = bytes

/-- The opcode `op` with the bytes it has of `b1`, `b2` (R63). -/
def instrBytes (op b1 b2 : Byte) : List Byte := op :: [b1, b2].take (operandBytes op)

/-- For a row with an imm16: its bytes are the two the word is put together of (R66). -/
theorem isRowOf_imm16 (f : Addr → Instr) (op : Byte) (hwf : ∀ nn, (f nn).wf = true)
    (henc : ∀ nn, encode (f nn) = [op, loByte nn, hiByte nn]) (b1 b2 : Byte) :
    IsRowOf [op, b1, b2] (f (word16 b2 b1)) :=
  ⟨hwf _, by rw [henc, loByte_word16, hiByte_word16]⟩

/-- All 256 CB rows, by their fields (R80). -/
theorem isRowOf_decodeCB (cb : Byte) : IsRowOf [0xCB, cb] (decodeCB cb) := by
  have hcb := byteOf_fields cb
  have hx := fieldX_cases cb
  unfold decodeCB
  generalize fieldX cb = x, fieldY cb = y, fieldZ cb = z at *
  subst hcb
  obtain rfl | rfl | rfl | rfl := hx <;> cases y <;> cases z <;> exact ⟨rfl, rfl⟩

theorem isRowOf_decodeMove (y z : Field3) (b1 b2 : Byte) :
    IsRowOf (instrBytes (byteOf 1 y z) b1 b2) (decodeMove (.ofField y) (.ofField z)) := by
  cases y <;> cases z <;> exact ⟨rfl, rfl⟩

theorem isRowOf_decodeAlu (y z : Field3) (b1 b2 : Byte) :
    IsRowOf (instrBytes (byteOf 2 y z) b1 b2) (decodeAlu (.ofField y) (.ofField z)) := by
  cases y <;> cases z <;> exact ⟨rfl, rfl⟩

theorem isRowOf_decodeX0 (y z : Field3) (b1 b2 : Byte) :
    IsRowOf (instrBytes (byteOf 0 y z) b1 b2) (decodeX0 y z b1 b2) := by
  cases z with
  | b0 =>
    cases y with
    | b1 => exact isRowOf_imm16 .ld_a16_SP 0x08 (fun _ => rfl) (fun _ => rfl) b1 b2
    | _ => exact ⟨rfl, rfl⟩
  | b1 =>
    cases y with
    | b0 => exact isRowOf_imm16 .ld_BC_d16 0x01 (fun _ => rfl) (fun _ => rfl) b1 b2
    | b2 => exact isRowOf_imm16 .ld_DE_d16 0x11 (fun _ => rfl) (fun _ => rfl) b1 b2
    | b4 => exact isRowOf_imm16 .ld_HL_d16 0x21 (fun _ => rfl) (fun _ => rfl) b1 b2
    | b6 => exact isRowOf_imm16 .ld_SP_d16 0x31 (fun _ => rfl) (fun _ => rfl) b1 b2
    | _ => exact ⟨rfl, rfl⟩
  | _ => cases y <;> exact ⟨rfl, rfl⟩

theorem isRowOf_decodeX3 (y z : Field3) (b1 b2 : Byte) :
    IsRowOf (instrBytes (byteOf 3 y z) b1 b2) (decodeX3 y z b1 b2) := by
  cases z with
  | b2 =>
    cases y with
    | b0 => exact isRowOf_imm16 .jp_NZ_a16 0xC2 (fun _ => rfl) (fun _ => rfl) b1 b2
    | b1 => exact isRowOf_imm16 .jp_Z_a16 0xCA (fun _ => rfl) (fun _ => rfl) b1 b2
    | b2 => exact isRowOf_imm16 .jp_NC_a16 0xD2 (fun _ => rfl) (fun _ => rfl) b1 b2
    | b3 => exact isRowOf_imm16 .jp_C_a16 0xDA (fun _ => rfl) (fun _ => rfl) b1 b2
    | b5 => exact isRowOf_imm16 .ld_a16_A 0xEA (fun _ => rfl) (fun _ => rfl) b1 b2
    | b7 => exact isRowOf_imm16 .ld_A_a16 0xFA (fun _ => rfl) (fun _ => rfl) b1 b2
    | _ => exact ⟨rfl, rfl⟩
  | b3 =>
    cases y with
    | b0 => exact isRowOf_imm16 .jp_a16 0xC3 (fun _ => rfl) (fun _ => rfl) b1 b2
    | b1 => exact isRowOf_decodeCB b1
    | _ => exact ⟨rfl, rfl⟩
  | b4 =>
    cases y with
    | b0 => exact isRowOf_imm16 .call_NZ_a16 0xC4 (fun _ => rfl) (fun _ => rfl) b1 b2
    | b1 => exact isRowOf_imm16 .call_Z_a16 0xCC (fun _ => rfl) (fun _ => rfl) b1 b2
    | b2 => exact isRowOf_imm16 .call_NC_a16 0xD4 (fun _ => rfl) (fun _ => rfl) b1 b2
    | b3 => exact isRowOf_imm16 .call_C_a16 0xDC (fun _ => rfl) (fun _ => rfl) b1 b2
    | _ => exact ⟨rfl, rfl⟩
  | b5 =>
    cases y with
    | b1 => exact isRowOf_imm16 .call_a16 0xCD (fun _ => rfl) (fun _ => rfl) b1 b2
    | _ => exact ⟨rfl, rfl⟩
  | _ => cases y <;> exact ⟨rfl, rfl⟩

theorem isRowOf_decodeInsn (op b1 b2 : Byte) : IsRowOf (instrBytes op b1 b2) (decodeInsn op b1 b2) := by
  have hop := byteOf_fields op
  have hx := fieldX_cases op
  unfold decodeInsn
  generalize fieldX op = x, fieldY op = y, fieldZ op = z at *
  subst hop
  obtain rfl | rfl | rfl | rfl := hx
  · exact isRowOf_decodeX0 y z b1 b2
  · exact isRowOf_decodeMove y z b1 b2
  · exact isRowOf_decodeAlu y z b1 b2
  · exact isRowOf_decodeX3 y z b1 b2

/-- Settles O54: by how many of the bytes the opcode takes, over the decoder's exactness at those bytes. -/
theorem decodeIsTotalAndExact : Obligations.DecodeIsTotalAndExact := by
  unfold Obligations.DecodeIsTotalAndExact
  intro op b1 b2 rest
  have hle := operandBytes_le_two op
  match hn : operandBytes op with
  | 0 =>
    obtain ⟨hwf, henc⟩ := isRowOf_decodeInsn op 0 0
    exact ⟨_, _, decode_one op _ hn, hwf, by rw [henc, instrBytes, hn]; rfl⟩
  | 1 =>
    obtain ⟨hwf, henc⟩ := isRowOf_decodeInsn op b1 0
    exact ⟨_, _, decode_two op b1 _ hn, hwf, by rw [henc, instrBytes, hn]; rfl⟩
  | 2 =>
    obtain ⟨hwf, henc⟩ := isRowOf_decodeInsn op b1 b2
    exact ⟨_, _, decode_three op b1 b2 _ hn, hwf, by rw [henc, instrBytes, hn]; rfl⟩
  | n + 3 => omega

end Sys2Proof.Laws

namespace Sys2Proof.Machine

/-! ## 0xCB runs the row its CB byte selects (spec/30_encoding.md R64, R80) -/

theorem exec_decodeCB (cb : Byte) (s : State) : exec (decodeCB cb) s = prefixed cb s := by
  have hx := Laws.fieldX_cases cb
  unfold decodeCB prefixed
  rw [← Laws.toByte_fieldY]
  generalize fieldX cb = x at *
  generalize RField.ofField (fieldZ cb) = operand
  obtain rfl | rfl | rfl | rfl := hx <;> cases operand
  exacts [exec_rotReg _ _ s, exec_rotAtHL _ s, exec_testReg _ _ s, exec_testAtHL _ s, exec_resetReg _ _ s,
    exec_resetAtHL _ s, exec_setReg _ _ s, exec_setAtHL _ s]

theorem bitReg_completes (kind : BitKind) (b : Field3) (r : Reg8) (s : State) :
    ∃ t, bitReg kind b.toByte r s = .next t := by
  unfold bitReg
  rw [bitUnit_ok kind _ _ (field3_le_seven b)]
  cases kind <;> exact ⟨_, rfl⟩

theorem bitAtHL_completes (kind : BitKind) (b : Field3) (s : State) : ∃ t, bitAtHL kind b.toByte s = .next t := by
  unfold bitAtHL
  rw [bitUnit_ok kind _ _ (field3_le_seven b)]
  cases kind <;> exact ⟨_, rfl⟩

/-- No CB byte stops: its bit index is a field, so at most 7 (R210). -/
theorem prefixed_completes (cb : Byte) (s : State) : ∃ t, prefixed cb s = .next t := by
  unfold prefixed
  rw [← Laws.toByte_fieldY]
  split
  exacts [⟨_, rfl⟩, ⟨_, rfl⟩, bitReg_completes _ _ _ s, bitAtHL_completes _ _ s, bitReg_completes _ _ _ s,
    bitAtHL_completes _ _ s, bitReg_completes _ _ _ s, bitAtHL_completes _ _ s]

/-- Settles O50: the row of 0xCB and the CB byte's row run the same operation, which completes. -/
theorem prefixRunsTheSelectedRow : Obligations.PrefixRunsTheSelectedRow := by
  unfold Obligations.PrefixRunsTheSelectedRow
  intro cb s
  obtain ⟨t, ht⟩ := prefixed_completes cb s
  exact ⟨rfl, Laws.decode_two 0xCB cb [] rfl, (Laws.isRowOf_decodeCB cb).encode_eq, t, ht,
    (exec_decodeCB cb s).trans ht⟩

/-! ## The fetch of an instruction's bytes (spec/30_encoding.md R60, R62, R63) -/

theorem frame_readsFrom {bytes : List Byte} {s : State} {a : Addr} (h : PortHolds s a bytes) :
    Frame [] (readAccesses a bytes) s (readsFrom bytes.length s a) := by
  induction bytes generalizing s a with
  | nil => exact .refl s
  | cons b bytes ih =>
    obtain ⟨rfl, htail⟩ := h
    exact (frame_afterRead s a).trans (ih htail)

/-- The operand fetch where the port returns the operand bytes: their values, after a read of each in order. -/
theorem fetchOperands_of_portHolds {op : Byte} {operands : List Byte} {s : State}
    (hlen : operands.length = operandBytes op) (h : PortHolds s (s.PC + 1) operands) :
    fetchOperands op s = (operands.getD 0 0, operands.getD 1 0, readsFrom operands.length s (s.PC + 1)) := by
  have hle := Laws.operandBytes_le_two op
  have hnext : s.PC + 1 + 1 = s.PC + 2 := BitVec.add_assoc s.PC 1 1
  unfold fetchOperands
  rw [← hlen] at hle ⊢
  match operands, h with
  | [], _ => rfl
  | [_], ⟨rfl, _⟩ => rfl
  | [_, _], ⟨rfl, rfl, _⟩ =>
    simp only [List.length_cons, List.length_nil, readsFrom, hnext]
    rfl
  | _ :: _ :: _ :: _, _ => simp at hle

/-- The fetch where the port returns an instruction's bytes at PC: the instruction they select, after a read of each in
order, with PC advanced past them. -/
theorem fetch_of_portHolds {op : Byte} {operands : List Byte} {s : State}
    (hlen : operands.length = operandBytes op) (h : PortHolds s s.PC (op :: operands)) :
    fetch s = (decodeInsn op (operands.getD 0 0) (operands.getD 1 0),
      { readsFrom (op :: operands).length s s.PC with PC := s.PC + BitVec.ofNat 16 (op :: operands).length }) := by
  obtain ⟨rfl, htail⟩ := h
  have hPC (n : Nat) : s.PC + 1 + BitVec.ofNat 16 n = s.PC + BitVec.ofNat 16 (n + 1) := by
    rw [Nat.add_comm n 1, BitVec.ofNat_add, ← BitVec.add_assoc]
    rfl
  have hoperands := fetchOperands_of_portHolds (s := s.afterRead s.PC) hlen htail
  rw [List.length_cons, ← hPC, hlen]
  rw [hlen] at hoperands
  simp only [fetch, hoperands]
  rfl

/-- Settles O51: the instruction's bytes are those of its opcode, so the fetch reads exactly them and selects it. -/
theorem stepRunsDecodedInstruction : Obligations.StepRunsDecodedInstruction := by
  unfold Obligations.StepRunsDecodedInstruction
  intro s i hwf hrun hstop hport
  refine ⟨?_, frame_readsFrom hport⟩
  obtain ⟨op, operands, henc, hlen, rfl⟩ := Laws.encode_eq_cons hwf
  rw [henc] at hport ⊢
  rw [step_running s hrun hstop, fetch_of_portHolds hlen hport, State.beginStep_PC]

end Sys2Proof.Machine

/-! The family 40_loads: the register, memory and IO port loads (O9-O16), the pair loads (O17, O18), LD HL,SP+e8 (O19) and
the stack sequencer (O20-O22). -/

namespace Sys2Proof.Machine

/-! ## The encodings of the rows by their fields (spec/30_encoding.md R70-R72, R77) -/

theorem encode_ldReg (d r : Reg8) : encode (Rows.ldReg d r) = [0x40 + 8 * rCode d + rCode r] := by
  cases d <;> cases r <;> rfl

theorem encode_ldImm (d : Reg8) (n : Byte) : encode (Rows.ldImm d n) = [0x06 + 8 * rCode d, n] := by cases d <;> rfl

theorem encode_ldFromHL (d : Reg8) : encode (Rows.ldFromHL d) = [0x46 + 8 * rCode d] := by cases d <;> rfl

theorem encode_ldToHL (r : Reg8) : encode (Rows.ldToHL r) = [0x70 + rCode r] := by cases r <;> rfl

theorem encode_ldPair (rr : Reg16) (nn : Addr) :
    encode (Rows.ldPair rr nn) = [0x01 + 16 * rrCode rr, loByte nn, hiByte nn] := by cases rr <;> rfl

theorem encode_push (qq : StackReg) : encode (Rows.push qq) = [0xC5 + 16 * qqCode qq] := by cases qq <;> rfl

theorem encode_pop (qq : StackReg) : encode (Rows.pop qq) = [0xC1 + 16 * qqCode qq] := by cases qq <;> rfl

/-! ## Loads and stores of a byte (spec/40_loads.md R100-R114) -/

/-- A row that runs `ldRegAt` makes one read, at the address formed before the register is written. -/
theorem completes_of_ldRegAt {i : Instr} {d : Reg8} {a : Addr} {s : State} (h : exec i s = ldRegAt d a s) :
    Completes i s fun t => t.reg d = s.portValue a ∧ Frame [regName d] [.read a (s.portValue a)] s t :=
  ⟨_, h, State.reg_setReg_self _ d _, (frame_afterRead s a).trans (frame_setReg _ d _)⟩

/-- A row that runs `storeAt` makes one write and changes no register. -/
theorem completes_of_storeAt {i : Instr} {a : Addr} {v : Byte} {s : State} (h : exec i s = storeAt a v s) :
    Completes i s fun t => Frame [] [.write a v] s t :=
  ⟨_, h, frame_writeByte s a v⟩

theorem ioPort_eq_ofNat (n : Byte) : ioPort n = BitVec.ofNat 16 (0xFF00 + n.toNat) := by
  rw [BitVec.ofNat_add, BitVec.ofNat_toNat]
  rfl

/-- Settles O9: the register multiplexer reads back what it wrote, and its write has a one-register frame. -/
theorem loadRegisterFromRegister : Obligations.LoadRegisterFromRegister := by
  unfold Obligations.LoadRegisterFromRegister
  intro d r
  exact ⟨encode_ldReg d r, fun s => ⟨_, exec_ldReg d r s, State.reg_setReg_self s d _, frame_setReg s d _⟩⟩

/-- Settles O10: as O9, of the immediate. -/
theorem loadRegisterImmediate : Obligations.LoadRegisterImmediate := by
  unfold Obligations.LoadRegisterImmediate
  intro d n
  exact ⟨encode_ldImm d n, fun s => ⟨_, exec_ldImm d n s, State.reg_setReg_self s d n, frame_setReg s d n⟩⟩

/-- Settles O11: the load at HL, whose address is taken from the state before it. -/
theorem loadRegisterFromHL : Obligations.LoadRegisterFromHL := by
  unfold Obligations.LoadRegisterFromHL
  intro d
  exact ⟨encode_ldFromHL d, fun s => completes_of_ldRegAt (exec_ldFromHL d s)⟩

/-- Settles O12: the store at HL, of a register and of the immediate. -/
theorem storeToHL : Obligations.StoreToHL := by
  unfold Obligations.StoreToHL
  exact ⟨fun r => ⟨encode_ldToHL r, fun s => completes_of_storeAt (exec_ldToHL r s)⟩,
    fun n => ⟨rfl, fun s => completes_of_storeAt rfl⟩⟩

/-- Settles O13: each of the five rows is the load of A at its address; BC and DE are not adjusted after it. -/
theorem loadAFromAddress : Obligations.LoadAFromAddress := by
  unfold Obligations.LoadAFromAddress
  intro s nn n
  rw [← ioPort_eq_ofNat, ← ioPort_eq_ofNat]
  have hloads {i : Instr} {a : Addr} (h : exec i s = ldRegAt .A a s) :
      Completes i s fun t => t.A = s.portValue a ∧ Frame [.A] [.read a (s.portValue a)] s t := completes_of_ldRegAt h
  exact ⟨⟨rfl, hloads (exec_ldAInd .BC s)⟩, ⟨rfl, hloads (exec_ldAInd .DE s)⟩, ⟨rfl, hloads rfl⟩, ⟨rfl, hloads rfl⟩,
    rfl, hloads rfl⟩

/-- Settles O14: each of the five rows is the store of A at its address; BC and DE are not adjusted after it. -/
theorem storeAToAddress : Obligations.StoreAToAddress := by
  unfold Obligations.StoreAToAddress
  intro s nn n
  rw [← ioPort_eq_ofNat, ← ioPort_eq_ofNat]
  exact ⟨⟨rfl, completes_of_storeAt (exec_ldIndA .BC s)⟩, ⟨rfl, completes_of_storeAt (exec_ldIndA .DE s)⟩,
    ⟨rfl, completes_of_storeAt rfl⟩, ⟨rfl, completes_of_storeAt rfl⟩, rfl, completes_of_storeAt rfl⟩

/-! ## The transfers through HL that move it (R115-R118, R123) -/

@[simp] theorem State.setHL_HL (s : State) (v : Addr) : (s.setHL v).HL = v := Laws.word16_hi_lo v

@[simp] theorem State.writeF_HL (s : State) (v : Byte) : (s.writeF v).HL = s.HL := rfl

theorem addr_succ_toNat (v : Addr) : (v + 1).toNat = (v.toNat + 1) % 65536 := BitVec.toNat_add v 1

theorem addr_pred_toNat (v : Addr) : ((v - 1).toNat : Int) = ((v.toNat : Int) - 1) % 65536 := by
  have hone : (1 : Addr).toNat = 1 := rfl
  rw [BitVec.toNat_sub, hone]
  omega

theorem indAdjust_HLinc_toNat (s : State) : (s.indAdjust .HLinc).HL.toNat = (s.HL.toNat + 1) % 65536 := by
  rw [State.indAdjust, State.setHL_HL, addr_succ_toNat]

theorem indAdjust_HLdec_toNat (s : State) :
    ((s.indAdjust .HLdec).HL.toNat : Int) = ((s.HL.toNat : Int) - 1) % 65536 := by
  rw [State.indAdjust, State.setHL_HL, addr_pred_toNat]

theorem frame_ldAInd (s : State) (p : IndPtr) :
    Frame [.A, .H, .L] [.read (s.indAddr p) (s.portValue (s.indAddr p))] s
      (((s.afterRead (s.indAddr p)).setReg .A (s.portValue (s.indAddr p))).indAdjust p) :=
  ((frame_afterRead s _).trans (frame_setReg _ .A _)).trans (frame_indAdjust _ p)

theorem frame_ldIndA (s : State) (p : IndPtr) :
    Frame [.H, .L] [.write (s.indAddr p) s.A] s ((s.writeByte (s.indAddr p) s.A).indAdjust p) :=
  (frame_writeByte s _ _).trans (frame_indAdjust _ p)

/-- Settles O15: the read is at the HL of the start, which neither it nor the write of A changes before the adjustment. -/
theorem loadAAndStepHL : Obligations.LoadAAndStepHL := by
  unfold Obligations.LoadAAndStepHL
  intro s
  exact ⟨⟨rfl, _, exec_ldAInd .HLinc s, rfl, indAdjust_HLinc_toNat _, frame_ldAInd s .HLinc⟩,
    rfl, _, exec_ldAInd .HLdec s, rfl, indAdjust_HLdec_toNat _, frame_ldAInd s .HLdec⟩

/-- Settles O16: the write is at the HL of the start, which it does not change before the adjustment. -/
theorem storeAAndStepHL : Obligations.StoreAAndStepHL := by
  unfold Obligations.StoreAAndStepHL
  intro s
  exact ⟨⟨rfl, _, exec_ldIndA .HLinc s, indAdjust_HLinc_toNat _, frame_ldIndA s .HLinc⟩,
    rfl, _, exec_ldIndA .HLdec s, indAdjust_HLdec_toNat _, frame_ldIndA s .HLdec⟩

/-! ## The 16-bit loads (R119-R121) -/

/-- Settles O17: a pair reads back what its write set (R21). -/
theorem loadPairImmediateAndSPFromHL : Obligations.LoadPairImmediateAndSPFromHL := by
  unfold Obligations.LoadPairImmediateAndSPFromHL
  exact ⟨fun rr nn => ⟨encode_ldPair rr nn, fun s =>
      ⟨_, exec_ldPair rr nn s, State.pair_setPair s rr nn, frame_setPair s rr nn⟩⟩,
    rfl, fun s => ⟨_, rfl, rfl, frame_setSP s s.HL⟩⟩

/-- Settles O18: the 16-bit write, low byte first. -/
theorem storeSPLittleEndian : Obligations.StoreSPLittleEndian := by
  unfold Obligations.StoreSPLittleEndian
  intro nn
  refine ⟨rfl, fun s => ?_⟩
  rw [← loByte_eq_ofNat, ← hiByte_eq_ofNat]
  exact ⟨_, rfl, frame_writeWord s nn s.SP⟩

/-! ## LD HL,SP+e8 (R124, R125) -/

theorem sext16_toNat (e : Byte) : ((sext16 e).toNat : Int) = e.toInt % 65536 := by
  rw [sext16, BitVec.signExtend, BitVec.toNat_ofInt]
  omega

theorem spAdd_sum_toNat (sp : Addr) (e : Byte) : ((spAdd sp e).sum.toNat : Int) = ((sp.toNat : Int) + e.toInt) % 65536 := by
  have hext := sext16_toNat e
  have hsum : (spAdd sp e).sum.toNat = (sp.toNat + (sext16 e).toNat) % 65536 := BitVec.toNat_ofNat _ 16
  omega

/-- The flags by profile stand above the mask of F's writes. -/
theorem ldHLSpFlags_masked (p : FlagProfile) (o : SpOut) : ldHLSpFlags p o &&& 0xF0 = ldHLSpFlags p o := by
  cases p with
  | DOC => exact BitVec.zero_and
  | SM83 => exact flagByte_masked false false o.h3 o.c7

/-- Settles O19: HL takes the adder's sum and F the flags of the profile, whose carries are the adder's h3 and c7. -/
theorem loadHLFromSPOffset : Obligations.LoadHLFromSPOffset := by
  unfold Obligations.LoadHLFromSPOffset
  intro e
  refine ⟨rfl, fun s => ⟨_, rfl, ?_, ldHLSpFlags_masked s.launch.flagProfile (spAdd s.SP e), ?_⟩⟩
  · rw [State.writeF_HL, State.setHL_HL, spAdd_sum_toNat]
  · exact (frame_setHL s _).trans (frame_writeF _ _)

/-! ## The stack sequencer (R126-R129) -/

/-- Settles O20: `StackPush` of the pair. -/
theorem pushPair : Obligations.PushPair := by
  unfold Obligations.PushPair
  intro qq
  exact ⟨encode_push qq, fun s => ⟨_, exec_push qq s, State.stackPush_SP s _, frame_stackPush s _⟩⟩

theorem popValue_eq_word16 (s : State) : s.popValue = word16 (popHigh s) (popLow s) := rfl

theorem popValue_toNat (s : State) : s.popValue.toNat = 256 * (popHigh s).toNat + (popLow s).toNat := by
  rw [popValue_eq_word16, Laws.word16_toNat, Nat.mul_comm]

/-- AF as a write of the word `hi`, `lo` leaves it (R23). -/
theorem setAF_word16_toNat (s : State) (hi lo : Byte) :
    (s.setAF (word16 hi lo)).AF.toNat = 256 * hi.toNat + lo.toNat / 16 * 16 := by
  rw [State.setAF_AF, ← word16_maskedLow, Laws.hiByte_word16, Laws.loByte_word16, Laws.word16_toNat, highNibble_toNat,
    Nat.mul_comm]

theorem State.stackPair_setStackPair (s : State) {qq : StackReg} (h : qq ≠ .AF) (v : Addr) :
    (s.setStackPair qq v).stackPair qq = v := by
  cases qq with
  | AF => exact absurd rfl h
  | BC | DE | HL => exact Laws.word16_hi_lo v

/-- Settles O21: the pair takes the value popped, AF with the low byte masked. -/
theorem popPair : Obligations.PopPair := by
  unfold Obligations.PopPair
  intro qq
  refine ⟨encode_pop qq, fun s => ⟨_, exec_pop qq s, ?_, ?_, (frame_afterPop s).trans (frame_setStackPair _ qq _)⟩⟩
  · rw [State.setStackPair_SP, State.afterPop_SP]
  · cases qq with
    | AF => exact setAF_word16_toNat s.afterPop (popHigh s) (popLow s)
    | BC | DE | HL => rw [State.stackPair_setStackPair _ (by decide), popValue_toNat]

/-- A pop takes the two bytes of memory where neither read is a draw. -/
theorem popValue_of_not_ioAt {s : State} (hlow : s.ioAt s.SP = false) (hhigh : s.ioAt (s.SP + 1) = false) :
    s.popValue = word16 (s.peek (s.SP + 1)) (s.peek s.SP) := by
  have hhigh' : (s.afterRead s.SP).ioAt (s.SP + 1) = false := (State.ioAt_congr rfl _).trans hhigh
  rw [popValue_eq_word16, popHigh, popLow, State.portValue, State.portValue, hhigh', hlow]
  rfl

theorem peek_stackPush_low (s : State) (v : Addr) : (s.stackPush v).peek (s.SP - 2) = loByte v := by
  rw [(frame_stackPush s v).memory]
  exact if_pos rfl

theorem peek_stackPush_high (s : State) (v : Addr) : (s.stackPush v).peek (s.SP - 1) = hiByte v := by
  have hne : s.SP - 2 ≠ s.SP - 1 := by bv_omega
  rw [(frame_stackPush s v).memory]
  exact (if_neg hne).trans (if_pos rfl)

/-- Settles O22: the pop reads the bytes of memory that the push left at SP-2 and SP-1. -/
theorem pushThenPopRestores : Obligations.PushThenPopRestores := by
  unfold Obligations.PushThenPopRestores
  intro s v hmem
  have hnext : s.SP - 2 + 1 = s.SP - 1 := by bv_omega
  have hio {a : Addr} (ha : s.launch.ioReads = .RAM ∨ a.toNat < 0xFF00) : (s.stackPush v).ioAt a = false :=
    (State.ioAt_congr (frame_stackPush s v).launch a).trans (State.ioAt_eq_false ha)
  have hlow : (s.stackPush v).ioAt (s.stackPush v).SP = false := by
    rw [State.stackPush_SP]
    exact hio (hmem.imp_right And.right)
  have hhigh : (s.stackPush v).ioAt ((s.stackPush v).SP + 1) = false := by
    rw [State.stackPush_SP, hnext]
    exact hio (hmem.imp_right And.left)
  constructor
  · rw [popValue_of_not_ioAt hlow hhigh, State.stackPush_SP, hnext, peek_stackPush_low, peek_stackPush_high,
      Laws.word16_hi_lo]
  · rw [State.afterPop_SP, State.stackPush_SP, BitVec.sub_add_cancel]

end Sys2Proof.Machine

/-! The family 41_alu8: the operations on A (O23-O26), INC and DEC of a byte (O27), and the source's comparison flags
against the carries (O28). -/

namespace Sys2Proof.Machine

/-! ## The encodings of the rows by their fields (spec/30_encoding.md R70, R74, R77) -/

theorem encode_aluReg (op : AluOp) (r : Reg8) : encode (Rows.aluReg op r) = [0x80 + 8 * aluCode op + rCode r] := by
  cases op <;> cases r <;> rfl

theorem encode_aluAtHL (op : AluOp) : encode (Rows.aluAtHL op) = [0x86 + 8 * aluCode op] := by cases op <;> rfl

theorem encode_aluImm (op : AluOp) (n : Byte) : encode (Rows.aluImm op n) = [0xC6 + 8 * aluCode op, n] := by
  cases op <;> rfl

theorem encode_incReg (r : Reg8) : encode (Rows.incReg r) = [0x04 + 8 * rCode r] := by cases r <;> rfl

theorem encode_decReg (r : Reg8) : encode (Rows.decReg r) = [0x05 + 8 * rCode r] := by cases r <;> rfl

/-! ## The adder and the subtracter (spec/41_alu8.md R140, R141, R145) -/

theorem add8_res_toNat (a b : Byte) (cin : Bool) :
    (add8 a b cin).res.toNat = (a.toNat + b.toNat + cin.toNat) % 256 := BitVec.toNat_ofNat _ 8

theorem byte_ofInt_toNat (i : Int) : ((BitVec.ofInt 8 i).toNat : Int) = i % 256 := by
  rw [BitVec.toNat_ofInt]
  omega

theorem sub8_res_toNat (a b : Byte) (cin : Bool) :
    ((sub8 a b cin).res.toNat : Int) = ((a.toNat : Int) - b.toNat - cin.toNat) % 256 := byte_ofInt_toNat _

theorem inc8_res_toNat (v : Byte) (c : Bool) : (inc8 v c).res.toNat = (v.toNat + 1) % 256 := BitVec.toNat_ofNat _ 8

theorem dec8_res_toNat (v : Byte) (c : Bool) : ((dec8 v c).res.toNat : Int) = ((v.toNat : Int) - 1) % 256 :=
  byte_ofInt_toNat _

/-- The carry out of bit 3 of `v + 1`, as R145 words it. -/
theorem inc8_flags (v : Byte) (c : Bool) :
    (inc8 v c).flags = flagByte ((inc8 v c).res == 0) false (decide (v.toNat % 16 = 0xF)) c := by
  have hH : decide (16 ≤ v.toNat % 16 + 1) = decide (v.toNat % 16 = 0xF) := by
    rw [decide_eq_decide]
    omega
  rw [← hH]
  rfl

/-- The borrow from bit 4 of `v - 1`, as R145 words it. -/
theorem dec8_flags (v : Byte) (c : Bool) :
    (dec8 v c).flags = flagByte ((dec8 v c).res == 0) true (decide (v.toNat % 16 = 0)) c := by
  have hH : decide (v.toNat % 16 < 1) = decide (v.toNat % 16 = 0) := by rw [decide_eq_decide, Nat.lt_one_iff]
  rw [← hH]
  rfl

/-- CP's Z: the difference is 0 exactly when the operands are equal. -/
theorem sub8_res_beq_zero (a b : Byte) : ((sub8 a b false).res == 0) = (a == b) := by
  have hres := sub8_res_toNat a b false
  have ha := a.isLt
  have hb := b.isLt
  have hzero : (0 : Byte).toNat = 0 := rfl
  rw [Bool.eq_iff_iff, beq_iff_eq, beq_iff_eq, ← BitVec.toNat_inj, ← BitVec.toNat_inj, hzero]
  rw [Bool.toNat_false] at hres
  omega

/-! ## A completion with a weaker claim, and a frame without a register that held its value -/

theorem Completes.imp {i : Instr} {s : State} {P Q : State → Prop} (h : Completes i s P) (hPQ : ∀ t, P t → Q t) :
    Completes i s Q := by
  obtain ⟨t, hexec, ht⟩ := h
  exact ⟨t, hexec, hPQ t ht⟩

/-- A register that holds its old value may be left out of a frame. -/
theorem Frame.dropReg {r : RegName} {regs : List RegName} {acc : List Access} {s t : State}
    (h : Frame (r :: regs) acc s t) (hr : t.value r = s.value r) : Frame regs acc s t where
  regs_kept q hq := by
    by_cases hqr : q = r
    · rw [hqr, hr]
    · exact h.regs_kept q (List.not_mem_cons_of_ne_of_not_mem hqr hq)
  memory := h.memory
  bus := h.bus
  events := h.events
  draws := h.draws
  launch := h.launch
  outcome := h.outcome

/-! ## The operations on A (R147-R171) -/

/-- `ALU8(op, A, b)` ended in `t`: A and F hold the two outputs of the unit on A, `b` and C as `s` had them, and from
`s` to `t` nothing else changed but by the accesses `acc` of the operand. -/
structure AluResult (op : AluOp) (b : Byte) (acc : List Access) (s t : State) : Prop where
  res : t.A = (alu8 op s.A b s.flagC).res
  flags : t.F = (alu8 op s.A b s.flagC).flags
  frame : Frame [.A, .F] acc s t

theorem State.aluWith_F (s : State) (op : AluOp) (b : Byte) : (s.aluWith op b).F = (alu8 op s.A b s.flagC).flags := by
  obtain ⟨z, n, h, c, hflags⟩ := alu8_flags op s.A b s.flagC
  rw [hflags]
  exact (congrArg (· &&& 0xF0) hflags).trans (flagByte_masked z n h c)

theorem aluResult_aluWith (s : State) (op : AluOp) (b : Byte) : AluResult op b [] s (s.aluWith op b) :=
  ⟨rfl, s.aluWith_F op b, frame_aluWith s op b⟩

/-- The read of the operand at HL changes neither A nor C. -/
theorem aluResult_afterRead_aluWith (s : State) (op : AluOp) (a : Addr) :
    AluResult op (s.portValue a) [.read a (s.portValue a)] s ((s.afterRead a).aluWith op (s.portValue a)) :=
  ⟨rfl, (s.afterRead a).aluWith_F op _, (frame_afterRead s a).trans (frame_aluWith _ op _)⟩

/-- The one meaning of all eight operations, in each operand form. -/
theorem aluForms_aluResult (op : AluOp) : AluForms op (AluResult op) := fun s =>
  ⟨fun r => ⟨encode_aluReg op r, _, exec_aluReg op r s, aluResult_aluWith s op _⟩,
    ⟨encode_aluAtHL op, _, exec_aluAtHL op s, aluResult_afterRead_aluWith s op s.HL⟩,
    fun n => ⟨encode_aluImm op n, _, exec_aluImm op n s, aluResult_aluWith s op n⟩⟩

/-- A statement about an operation follows from what the unit leaves in A and F. -/
theorem aluForms_of_aluResult {op : AluOp} {post : Byte → List Access → State → State → Prop}
    (h : ∀ {b acc s t}, AluResult op b acc s t → post b acc s t) : AluForms op post := by
  intro s
  obtain ⟨hreg, ⟨hencHL, hHL⟩, himm⟩ := aluForms_aluResult op s
  refine ⟨fun r => ?_, ⟨hencHL, hHL.imp fun _ => h⟩, fun n => ?_⟩
  · obtain ⟨henc, hr⟩ := hreg r
    exact ⟨henc, hr.imp fun _ => h⟩
  · obtain ⟨henc, hn⟩ := himm n
    exact ⟨henc, hn.imp fun _ => h⟩

section results
variable {b : Byte} {acc : List Access} {s t : State}

theorem addsToA_of_add8 {cin : Bool} (hres : t.A = (add8 s.A b cin).res) (hflags : t.F = (add8 s.A b cin).flags)
    (hframe : Frame [.A, .F] acc s t) : AddsToA cin b acc s t := by
  refine ⟨?_, ?_, hframe⟩
  · rw [hres, add8_res_toNat]
  · rw [hflags, hres]
    rfl

theorem subtractsFromA_of_sub8 {cin : Bool} (hres : t.A = (sub8 s.A b cin).res)
    (hflags : t.F = (sub8 s.A b cin).flags) (hframe : Frame [.A, .F] acc s t) : SubtractsFromA cin b acc s t := by
  refine ⟨?_, ?_, hframe⟩
  · rw [hres, sub8_res_toNat]
  · rw [hflags, hres]
    rfl

theorem AluResult.comparesA (h : AluResult .CP b acc s t) : ComparesA b acc s t := by
  have hA : t.A = s.A := h.res
  refine ⟨?_, h.frame.dropReg (congrArg (BitVec.setWidth 16) hA)⟩
  rw [← sub8_res_beq_zero]
  exact h.flags

end results

/-- Settles O23: both are the adder, with no carry or with C coming in. -/
theorem addAndAdcToA : Obligations.AddAndAdcToA := by
  unfold Obligations.AddAndAdcToA
  exact ⟨aluForms_of_aluResult fun h => addsToA_of_add8 h.res h.flags h.frame,
    aluForms_of_aluResult fun h => addsToA_of_add8 h.res h.flags h.frame⟩

/-- Settles O24: both are the subtracter, with no borrow or with C coming in. -/
theorem subAndSbcFromA : Obligations.SubAndSbcFromA := by
  unfold Obligations.SubAndSbcFromA
  exact ⟨aluForms_of_aluResult fun h => subtractsFromA_of_sub8 h.res h.flags h.frame,
    aluForms_of_aluResult fun h => subtractsFromA_of_sub8 h.res h.flags h.frame⟩

/-- Settles O25: the outputs of the unit for the three operations are as R143 and R144 state them. -/
theorem andXorOrIntoA : Obligations.AndXorOrIntoA := by
  unfold Obligations.AndXorOrIntoA
  exact ⟨aluForms_of_aluResult fun h => ⟨h.res, h.flags, h.frame⟩,
    aluForms_of_aluResult fun h => ⟨h.res, h.flags, h.frame⟩,
    aluForms_of_aluResult fun h => ⟨h.res, h.flags, h.frame⟩⟩

/-- Settles O26: A takes its own value, so the frame is that of F alone. -/
theorem compareKeepsA : Obligations.CompareKeepsA := by
  unfold Obligations.CompareKeepsA
  exact aluForms_of_aluResult AluResult.comparesA

/-! ## INC and DEC of a byte (R172-R175) -/

/-- A row that writes a register and the whole of F. -/
theorem completes_of_setReg_writeF {i : Instr} {r : Reg8} {v f : Byte} {z n h c : Bool} {s : State}
    (hexec : exec i s = .next ((s.setReg r v).writeF f)) (hf : f = flagByte z n h c) :
    Completes i s fun t => t.reg r = v ∧ t.F = flagByte z n h c ∧ Frame [regName r, .F] [] s t := by
  subst hf
  refine ⟨_, hexec, ?_, writeF_flagByte _ z n h c, (frame_setReg s r v).trans (frame_writeF _ _)⟩
  rw [State.reg_writeF, State.reg_setReg_self]

/-- A row that reads a byte, writes one back at the same address, and writes the whole of F. -/
theorem completes_of_readWrite_writeF {i : Instr} {a : Addr} {v f : Byte} {z n h c : Bool} {s : State}
    (hexec : exec i s = .next (((s.afterRead a).writeByte a v).writeF f)) (hf : f = flagByte z n h c) :
    Completes i s fun t => t.F = flagByte z n h c ∧ Frame [.F] [.read a (s.portValue a), .write a v] s t := by
  subst hf
  exact ⟨_, hexec, writeF_flagByte _ z n h c, (frame_readWrite s a v).trans (frame_writeF _ _)⟩

/-- Settles O27: the value is the unit's, which keeps C (D7); at HL it is read once and written back once. -/
theorem incDecByteKeepCarry : Obligations.IncDecByteKeepCarry := by
  unfold Obligations.IncDecByteKeepCarry
  intro s
  refine ⟨fun r => ⟨encode_incReg r, ?_⟩, fun r => ⟨encode_decReg r, ?_⟩, ⟨rfl, ?_⟩, ⟨rfl, ?_⟩⟩
  · refine (completes_of_setReg_writeF (exec_incReg r s) (inc8_flags _ _)).imp fun t ⟨hres, hflags, hframe⟩ => ?_
    rw [hres]
    exact ⟨inc8_res_toNat _ _, hflags, hframe⟩
  · refine (completes_of_setReg_writeF (exec_decReg r s) (dec8_flags _ _)).imp fun t ⟨hres, hflags, hframe⟩ => ?_
    rw [hres]
    exact ⟨dec8_res_toNat _ _, hflags, hframe⟩
  · exact (completes_of_readWrite_writeF rfl (inc8_flags _ _)).imp fun t ht => ⟨_, inc8_res_toNat _ _, ht⟩
  · exact (completes_of_readWrite_writeF rfl (dec8_flags _ _)).imp fun t ht => ⟨_, dec8_res_toNat _ _, ht⟩

/-! ## The source's comparison flags (R142), for a digit of any base: 256 for C and 16 for H -/

section digits
variable {n a b c : Nat}

/-- A sum of digits is below the first of them exactly when it carries, unless a carry comes in and the second digit is
the highest. -/
theorem carry_iff_mod_lt_iff (ha : a < n) (hb : b < n) (hc : c ≤ 1) :
    ((n ≤ a + b + c) ↔ (a + b + c) % n < a) ↔ ¬(c = 1 ∧ b + 1 = n) := by
  by_cases hcarry : n ≤ a + b + c
  · have hmod : (a + b + c) % n = a + b + c - n := by
      rw [Nat.mod_eq_sub_mod hcarry, Nat.mod_eq_of_lt (by omega)]
    omega
  · have hmod : (a + b + c) % n = a + b + c := Nat.mod_eq_of_lt (by omega)
    omega

/-- The same of a difference of digits, which is above the first of them when it borrows. -/
theorem borrow_iff_lt_emod_iff {d : Nat} (ha : a < n) (hb : b < n) (hc : c ≤ 1)
    (hd : (d : Int) = ((a : Int) - b - c) % n) : ((a < b + c) ↔ a < d) ↔ ¬(c = 1 ∧ b + 1 = n) := by
  by_cases hborrow : a < b + c
  · have hmod : ((a : Int) - b - c) % n = (a : Int) - b - c + n := by
      rw [← Int.add_emod_right, Int.emod_eq_of_lt (by omega) (by omega)]
    omega
  · have hmod : ((a : Int) - b - c) % n = (a : Int) - b - c := Int.emod_eq_of_lt (by omega) (by omega)
    omega

end digits

theorem add8_flag_bits (a b : Byte) (cin : Bool) :
    (add8 a b cin).flags.getLsbD 7 = ((add8 a b cin).res == 0) ∧ (add8 a b cin).flags.getLsbD 6 = false ∧
      (add8 a b cin).flags.getLsbD 5 = decide (16 ≤ a.toNat % 16 + b.toNat % 16 + cin.toNat) ∧
      (add8 a b cin).flags.getLsbD 4 = decide (256 ≤ a.toNat + b.toNat + cin.toNat) := flagByte_bits _ _ _ _

theorem sub8_flag_bits (a b : Byte) (cin : Bool) :
    (sub8 a b cin).flags.getLsbD 7 = ((sub8 a b cin).res == 0) ∧ (sub8 a b cin).flags.getLsbD 6 = true ∧
      (sub8 a b cin).flags.getLsbD 5 = decide (a.toNat % 16 < b.toNat % 16 + cin.toNat) ∧
      (sub8 a b cin).flags.getLsbD 4 = decide (a.toNat < b.toNat + cin.toNat) := flagByte_bits _ _ _ _

/-- Settles O28: C is the carry of a digit of base 256, and H that of the low digits of base 16. -/
theorem comparisonFlagsAgainstCarries : Obligations.ComparisonFlagsAgainstCarries := by
  unfold Obligations.ComparisonFlagsAgainstCarries
  intro a b cin sum dif
  obtain ⟨hsumZ, hsumN, hsumH, hsumC⟩ := add8_flag_bits a b cin
  obtain ⟨hdifZ, hdifN, hdifH, hdifC⟩ := sub8_flag_bits a b cin
  have hsum : sum.res.toNat = (a.toNat + b.toNat + cin.toNat) % 256 := add8_res_toNat a b cin
  have hdif : (dif.res.toNat : Int) = ((a.toNat : Int) - b.toNat - cin.toNat) % 256 := sub8_res_toNat a b cin
  have hsumLow : sum.res.toNat % 16 = (a.toNat % 16 + b.toNat % 16 + cin.toNat) % 16 := by omega
  have hdifLow : ((dif.res.toNat % 16 : Nat) : Int) =
      (((a.toNat % 16 : Nat) : Int) - (b.toNat % 16 : Nat) - cin.toNat) % (16 : Nat) := by omega
  have hlow (v : Byte) : v.toNat % 16 < 16 := Nat.mod_lt _ (by decide)
  have hcin : cin = true ↔ cin.toNat = 1 := Bool.toNat_eq_one.symm
  have hbyte : b = 0xFF ↔ b.toNat + 1 = 256 := by rw [← BitVec.toNat_inj]; exact Nat.succ_inj.symm
  have hnibble : b.toNat % 16 = 0xF ↔ b.toNat % 16 + 1 = 16 := Nat.succ_inj.symm
  refine ⟨?_, ?_, ?_, ?_, hsumZ, hsumN, hdifZ, hdifN⟩
  · rw [hsumC, decide_eq_decide, hsum, hcin, hbyte]
    exact carry_iff_mod_lt_iff a.isLt b.isLt cin.toNat_le
  · rw [hsumH, decide_eq_decide, hsumLow, hcin, hnibble]
    exact carry_iff_mod_lt_iff (hlow a) (hlow b) cin.toNat_le
  · rw [hdifC, decide_eq_decide, hcin, hbyte]
    exact borrow_iff_lt_emod_iff a.isLt b.isLt cin.toNat_le hdif
  · rw [hdifH, decide_eq_decide, hcin, hnibble]
    exact borrow_iff_lt_emod_iff (hlow a) (hlow b) cin.toNat_le hdifLow

end Sys2Proof.Machine

/-! The family 42_alu16: ADD HL,rr (O29), INC and DEC of a pair (O30), and ADD SP,e8 (O31). -/

namespace Sys2Proof.Machine

/-! ## The encodings of the rows by their fields (spec/30_encoding.md R71, R77) -/

theorem encode_addHL (rr : Reg16) : encode (Rows.addHL rr) = [0x09 + 16 * rrCode rr] := by cases rr <;> rfl

theorem encode_incPair (rr : Reg16) : encode (Rows.incPair rr) = [0x03 + 16 * rrCode rr] := by cases rr <;> rfl

theorem encode_decPair (rr : Reg16) : encode (Rows.decPair rr) = [0x0B + 16 * rrCode rr] := by cases rr <;> rfl

/-! ## ADD HL,rr (R180, R182) -/

theorem add16_res_toNat (a b : Addr) : (add16 a b).res.toNat = (a.toNat + b.toNat) % 65536 := BitVec.toNat_ofNat _ 16

/-- Settles O29: HL takes the sum of the 16-bit adder, and F the incoming Z with the adder's two carries. -/
theorem addPairToHL : Obligations.AddPairToHL := by
  unfold Obligations.AddPairToHL
  intro rr
  refine ⟨encode_addHL rr, fun s => ⟨_, exec_addHL rr s, ?_, writeF_flagByte _ _ _ _ _, ?_⟩⟩
  · rw [State.writeF_HL, State.setHL_HL, add16_res_toNat]
  · exact (frame_setHL s _).trans (frame_writeF _ _)

/-! ## INC and DEC of a pair (R181, R183, R185) -/

/-- Settles O30: the pair reads back the value one above or below, and its write is the whole change. -/
theorem incDecPairWithoutFlags : Obligations.IncDecPairWithoutFlags := by
  unfold Obligations.IncDecPairWithoutFlags
  intro rr s
  refine ⟨⟨encode_incPair rr, _, exec_incPair rr s, ?_, frame_setPair s rr _⟩,
    encode_decPair rr, _, exec_decPair rr s, ?_, frame_setPair s rr _⟩
  · rw [State.pair_setPair, inc16, addr_succ_toNat]
  · rw [State.pair_setPair, dec16, addr_pred_toNat]

/-! ## ADD SP,e8 (R125, R184) -/

/-- The flags of ADD SP,e8 stand above the mask of F's writes, under either profile. -/
theorem addSpFlags_masked (p : FlagProfile) (z : Bool) (o : SpOut) : addSpFlags p z o &&& 0xF0 = addSpFlags p z o := by
  cases p with
  | DOC => exact flagByte_masked z false o.h11 o.c15
  | SM83 => exact flagByte_masked false false o.h3 o.c7

/-- Settles O31: SP takes the adder's sum and F the flags of the profile, whose carries are the adder's h11 and c15 under
DOC and its h3 and c7 under SM83. -/
theorem addOffsetToSP : Obligations.AddOffsetToSP := by
  unfold Obligations.AddOffsetToSP
  intro e
  exact ⟨rfl, fun s => ⟨_, rfl, spAdd_sum_toNat s.SP e, addSpFlags_masked s.launch.flagProfile s.flagZ (spAdd s.SP e),
    (frame_setSP s _).trans (frame_writeF _ _)⟩⟩

end Sys2Proof.Machine

/-! The family 43_rotate_shift: the accumulator rotates (O32), and the CB rotates, shifts and SWAP of a register (O33)
and of the byte at HL (O34). -/

namespace Sys2Proof.Machine

/-! ## The encodings of the CB rows by their fields (spec/30_encoding.md R64, R75) -/

theorem encode_rotReg (op : RotOp) (r : Reg8) : encode (Rows.rotReg op r) = [0xCB, 8 * rotCode op + rCode r] := by
  cases op <;> cases r <;> rfl

theorem encode_rotAtHL (op : RotOp) : encode (Rows.rotAtHL op) = [0xCB, 8 * rotCode op + 6] := by cases op <;> rfl

/-! ## A shift by one that takes in a bit (spec/43_rotate_shift.md R194) -/

section bits
variable {i : Nat}

theorem getLsbD_bitByte (b : Bool) (i : Nat) : (bitByte b).getLsbD i = (decide (i = 0) && b) := by
  cases b with
  | false => exact BitVec.getLsbD_zero.trans (Bool.and_false _).symm
  | true => exact BitVec.getLsbD_one.trans (Bool.and_comm _ _)

/-- To the left the bit enters below. -/
theorem getLsbD_shiftLeft_or (v : Byte) (b : Bool) (hi : i < 8) :
    ((v <<< 1) ||| bitByte b).getLsbD i = if i = 0 then b else v.getLsbD (i - 1) := by
  rw [BitVec.getLsbD_or, BitVec.getLsbD_shiftLeft, getLsbD_bitByte]
  by_cases h0 : i = 0
  · simp [h0]
  · simp [h0, hi]

/-- To the right it enters above. -/
theorem getLsbD_shiftRight_or (v : Byte) (b : Bool) (hi : i < 8) :
    ((v >>> 1) ||| (bitByte b <<< 7)).getLsbD i = if i = 7 then b else v.getLsbD (i + 1) := by
  rw [BitVec.getLsbD_or, BitVec.getLsbD_ushiftRight, BitVec.getLsbD_shiftLeft, getLsbD_bitByte, Nat.add_comm 1 i]
  by_cases h7 : i = 7
  · simp [h7]
  · have hlow : i < 7 := by omega
    simp [h7, hi, hlow]

/-- SWAP: each bit comes from the other nibble (spec/46_misc.md R240). -/
theorem getLsbD_swapNibbles (v : Byte) (hi : i < 8) : (swapNibbles v).getLsbD i = v.getLsbD ((i + 4) % 8) := by
  rw [swapNibbles, BitVec.getLsbD_or, BitVec.getLsbD_shiftLeft, BitVec.getLsbD_ushiftRight]
  by_cases hlow : i < 4
  · have hfrom : (i + 4) % 8 = 4 + i := by omega
    simp [hfrom, hlow]
  · have hfrom : (i + 4) % 8 = i - 4 := by omega
    have hout : v.getLsbD (4 + i) = false := BitVec.getLsbD_of_ge v _ (by omega)
    simp [hfrom, hlow, hi, hout]

/-- The bit a rotate to the left brings to `i` is the one below it, and bit 7 at 0. -/
theorem leftSource_eq (hi : i < 8) : (i + 7) % 8 = if i = 0 then 7 else i - 1 := by split <;> omega

/-- The bit a rotate to the right brings to `i` is the one above it, and bit 0 at 7. -/
theorem rightSource_eq (hi : i < 8) : (i + 1) % 8 = if i = 7 then 0 else i + 1 := by split <;> omega

end bits

/-! ## The shift/rotate unit (R194): each operation but SWAP is a shift by one that takes in a bit -/

/-- SLA takes in 0. -/
theorem rotShift_SLA_res (v : Byte) (cin : Bool) : (rotShift .SLA v cin).res = (v <<< 1) ||| bitByte false :=
  BitVec.or_zero.symm

/-- SRL takes in 0. -/
theorem rotShift_SRL_res (v : Byte) (cin : Bool) : (rotShift .SRL v cin).res = (v >>> 1) ||| (bitByte false <<< 7) :=
  BitVec.or_zero.symm

/-- SRA takes in the sign bit again. -/
theorem rotShift_SRA_res (v : Byte) (cin : Bool) :
    (rotShift .SRA v cin).res = (v >>> 1) ||| (bitByte (v.getLsbD 7) <<< 7) := by
  have hsign : v &&& 0x80 = bitByte (v.getLsbD 7) <<< 7 := by
    refine (BitVec.and_twoPow v 7).trans ?_
    cases v.getLsbD 7 <;> rfl
  rw [← hsign]
  rfl

theorem isRotated_rotShift (op : RotOp) (v : Byte) (cin : Bool) : IsRotated op v cin (rotShift op v cin).res := by
  intro i hi
  cases op with
  | RLC =>
    rw [rotBit, leftSource_eq hi, apply_ite v.getLsbD]
    exact getLsbD_shiftLeft_or v (v.getLsbD 7) hi
  | RRC =>
    rw [rotBit, rightSource_eq hi, apply_ite v.getLsbD]
    exact getLsbD_shiftRight_or v (v.getLsbD 0) hi
  | RL => exact getLsbD_shiftLeft_or v cin hi
  | RR => exact getLsbD_shiftRight_or v cin hi
  | SLA =>
    rw [rotShift_SLA_res]
    exact getLsbD_shiftLeft_or v false hi
  | SRA =>
    rw [rotShift_SRA_res]
    exact getLsbD_shiftRight_or v (v.getLsbD 7) hi
  | SWAP => exact getLsbD_swapNibbles v hi
  | SRL =>
    rw [rotShift_SRL_res]
    exact getLsbD_shiftRight_or v false hi

theorem rotShift_cout (op : RotOp) (v : Byte) (cin : Bool) : (rotShift op v cin).cout = rotCarry op v := by
  cases op <;> rfl

theorem shiftFlags_rotShift (op : RotOp) (v : Byte) (cin : Bool) :
    shiftFlags (rotShift op v cin) = flagByte ((rotShift op v cin).res == 0) false false (rotCarry op v) := by
  rw [shiftFlags, rotShift_cout]

/-! ## The rows -/

/-- A row that runs `rotA`: A takes the unit's result and F the profile's Z with the departing bit (R190-R193, K10). -/
theorem completes_of_rotA {i : Instr} {op : RotOp} {s : State} (h : exec i s = rotA op s) :
    Completes i s fun t =>
      IsRotated op s.A s.flagC t.A ∧
      t.F = flagByte (rotAZero s.launch.flagProfile t.A) false false (rotCarry op s.A) ∧ Frame [.A, .F] [] s t := by
  rw [rotA, rotShift_cout] at h
  refine (completes_of_setReg_writeF h rfl).imp fun t ⟨hres, hflags, hframe⟩ => ?_
  change t.A = _ at hres
  rw [hres]
  exact ⟨isRotated_rotShift op s.A s.flagC, hflags, hframe⟩

/-- Settles O32: each row is `rotA` of its operation, and Z by the profile is the unit's. -/
theorem accumulatorRotates : Obligations.AccumulatorRotates := by
  unfold Obligations.AccumulatorRotates
  intro s
  exact ⟨⟨rfl, completes_of_rotA rfl⟩, ⟨rfl, completes_of_rotA rfl⟩, ⟨rfl, completes_of_rotA rfl⟩,
    rfl, completes_of_rotA rfl⟩

/-- Settles O33: the register reads back the unit's result, and F is written whole. -/
theorem rotateShiftRegister : Obligations.RotateShiftRegister := by
  unfold Obligations.RotateShiftRegister
  intro op r
  refine ⟨encode_rotReg op r, fun s => ?_⟩
  refine (completes_of_setReg_writeF (exec_rotReg op r s) (shiftFlags_rotShift _ _ _)).imp
    fun t ⟨hres, hflags, hframe⟩ => ?_
  rw [hres]
  exact ⟨isRotated_rotShift op (s.reg r) s.flagC, hflags, hframe⟩

/-- Settles O34: the byte read at HL goes through the unit and back, and F is written whole. -/
theorem rotateShiftAtHL : Obligations.RotateShiftAtHL := by
  unfold Obligations.RotateShiftAtHL
  intro op
  exact ⟨encode_rotAtHL op, fun s =>
    (completes_of_readWrite_writeF (exec_rotAtHL op s) (shiftFlags_rotShift _ _ _)).imp
      fun t ht => ⟨_, isRotated_rotShift op (s.portValue s.HL) s.flagC, ht⟩⟩

end Sys2Proof.Machine

/-! The family 44_bit: BIT (O35), RES and SET of a register (O36) and of the byte at HL (O37), the bit index (O38), and
the round trip of SET and RES (O39). -/

namespace Sys2Proof.Machine

/-! ## The encodings of the bit rows by their fields (spec/30_encoding.md R64, R76) -/

section encodings
variable (b : Field3)

theorem encode_testReg (r : Reg8) : encode (Rows.testReg b r) = [0xCB, 0x40 + 8 * b.toByte + rCode r] := by
  cases b <;> cases r <;> rfl

theorem encode_resetReg (r : Reg8) : encode (Rows.resetReg b r) = [0xCB, 0x80 + 8 * b.toByte + rCode r] := by
  cases b <;> cases r <;> rfl

theorem encode_setReg (r : Reg8) : encode (Rows.setReg b r) = [0xCB, 0xC0 + 8 * b.toByte + rCode r] := by
  cases b <;> cases r <;> rfl

theorem encode_testAtHL : encode (Rows.testAtHL b) = [0xCB, 0x46 + 8 * b.toByte] := by cases b <;> rfl

theorem encode_resetAtHL : encode (Rows.resetAtHL b) = [0xCB, 0x86 + 8 * b.toByte] := by cases b <;> rfl

theorem encode_setAtHL : encode (Rows.setAtHL b) = [0xCB, 0xC6 + 8 * b.toByte] := by cases b <;> rfl

end encodings

/-! ## A byte with one bit written (spec/44_bit.md R210) -/

section bits
variable {b : Nat} {v w u : Byte} {x y : Bool}

theorem getLsbD_one_shiftLeft {i : Nat} (b : Nat) (hi : i < 8) : (1#8 <<< b).getLsbD i = decide (i = b) := by
  have hbit : (1#8 <<< b).getLsbD i = (decide (b < 8) && decide (b = i)) := BitVec.getLsbD_twoPow b i
  rw [hbit]
  by_cases h : i = b
  · simp [← h, hi]
  · simp [h, Ne.symm h]

theorem isWithBit_or (v : Byte) (b : Nat) : IsWithBit v b true (v ||| (1#8 <<< b)) := by
  intro i hi
  rw [BitVec.getLsbD_or, getLsbD_one_shiftLeft b hi]
  by_cases h : i = b <;> simp [h]

theorem isWithBit_and_not (v : Byte) (b : Nat) : IsWithBit v b false (v &&& ~~~(1#8 <<< b)) := by
  intro i hi
  rw [BitVec.getLsbD_and, BitVec.getLsbD_not, getLsbD_one_shiftLeft b hi]
  by_cases h : i = b <;> simp [h, hi]

/-- The later write of a bit decides. -/
theorem IsWithBit.trans (hw : IsWithBit v b x w) (hu : IsWithBit w b y u) : IsWithBit v b y u := by
  intro i hi
  rw [hu i hi]
  split
  · rfl
  · rw [hw i hi, if_neg ‹_›]

/-- Writing a bit changes nothing exactly when it held that value. -/
theorem IsWithBit.eq_iff (hb : b < 8) (hw : IsWithBit v b x w) : w = v ↔ v.getLsbD b = x := by
  constructor
  · rintro rfl
    exact (hw b hb).trans (if_pos rfl)
  · intro hv
    refine BitVec.eq_of_getLsbD_eq fun i hi => ?_
    rw [hw i hi]
    split
    · rw [‹i = b›, hv]
    · rfl

end bits

/-! ## The handlers, for the bit of a field (R210-R216) -/

section handlers
variable (b : Field3) (r : Reg8) (s : State)

theorem bitReg_test : bitReg .TEST b.toByte r s =
    .next (s.writeF (bitTestFlags (!(s.reg r).getLsbD b.toByte.toNat) s.flagC)) := by
  rw [bitReg, bitUnit_ok _ _ _ (field3_le_seven b)]

theorem bitReg_reset : bitReg .RESET b.toByte r s =
    .next (s.setReg r (s.reg r &&& ~~~(1#8 <<< b.toByte.toNat))) := by
  rw [bitReg, bitUnit_ok _ _ _ (field3_le_seven b)]

theorem bitReg_set : bitReg .SET b.toByte r s = .next (s.setReg r (s.reg r ||| (1#8 <<< b.toByte.toNat))) := by
  rw [bitReg, bitUnit_ok _ _ _ (field3_le_seven b)]

theorem bitAtHL_test : bitAtHL .TEST b.toByte s =
    .next ((s.afterRead s.HL).writeF (bitTestFlags (!(s.portValue s.HL).getLsbD b.toByte.toNat) s.flagC)) := by
  rw [bitAtHL, bitUnit_ok _ _ _ (field3_le_seven b)]

theorem bitAtHL_reset : bitAtHL .RESET b.toByte s =
    .next ((s.afterRead s.HL).writeByte s.HL (s.portValue s.HL &&& ~~~(1#8 <<< b.toByte.toNat))) := by
  rw [bitAtHL, bitUnit_ok _ _ _ (field3_le_seven b)]

theorem bitAtHL_set : bitAtHL .SET b.toByte s =
    .next ((s.afterRead s.HL).writeByte s.HL (s.portValue s.HL ||| (1#8 <<< b.toByte.toNat))) := by
  rw [bitAtHL, bitUnit_ok _ _ _ (field3_le_seven b)]

end handlers

/-- Settles O35: F is the whole write, after the read of HL where the operand is there. -/
theorem bitTestSetsZ : Obligations.BitTestSetsZ := by
  unfold Obligations.BitTestSetsZ
  intro b s
  refine ⟨fun r => ⟨encode_testReg b r, _, (exec_testReg b r s).trans (bitReg_test b r s), ?_, frame_writeF s _⟩,
    encode_testAtHL b, _, (exec_testAtHL b s).trans (bitAtHL_test b s), ?_,
    (frame_afterRead s s.HL).trans (frame_writeF _ _)⟩
  · exact writeF_flagByte _ _ _ _ _
  · exact writeF_flagByte _ _ _ _ _

/-! ## RES and SET (R213-R216) -/

/-- In every state the row `i` completes with bit `b` of the register `r` equal to `x`, and changes nothing else. -/
def WritesBitOfReg (i : Instr) (r : Reg8) (b : Nat) (x : Bool) : Prop :=
  ∀ s, Completes i s fun t => IsWithBit (s.reg r) b x (t.reg r) ∧ Frame [regName r] [] s t

theorem completes_of_setReg {i : Instr} {r : Reg8} {b : Nat} {x : Bool} {w : Byte} {s : State}
    (hexec : exec i s = .next (s.setReg r w)) (hw : IsWithBit (s.reg r) b x w) :
    Completes i s fun t => IsWithBit (s.reg r) b x (t.reg r) ∧ Frame [regName r] [] s t := by
  refine ⟨_, hexec, ?_, frame_setReg s r w⟩
  rw [State.reg_setReg_self]
  exact hw

theorem resetReg_writesBit (b : Field3) (r : Reg8) : WritesBitOfReg (Rows.resetReg b r) r b.toByte.toNat false :=
  fun s => completes_of_setReg ((exec_resetReg b r s).trans (bitReg_reset b r s)) (isWithBit_and_not _ _)

theorem setReg_writesBit (b : Field3) (r : Reg8) : WritesBitOfReg (Rows.setReg b r) r b.toByte.toNat true :=
  fun s => completes_of_setReg ((exec_setReg b r s).trans (bitReg_set b r s)) (isWithBit_or _ _)

/-- Settles O36: each row writes its bit of the register. -/
theorem resetAndSetBitOfRegister : Obligations.ResetAndSetBitOfRegister := by
  unfold Obligations.ResetAndSetBitOfRegister
  intro b r s
  exact ⟨⟨encode_resetReg b r, resetReg_writesBit b r s⟩, encode_setReg b r, setReg_writesBit b r s⟩

/-- Settles O37: the byte read at HL is written back with its bit changed. -/
theorem resetAndSetBitAtHL : Obligations.ResetAndSetBitAtHL := by
  unfold Obligations.ResetAndSetBitAtHL
  intro b s
  exact ⟨⟨encode_resetAtHL b, _, (exec_resetAtHL b s).trans (bitAtHL_reset b s), _, isWithBit_and_not _ _,
      frame_readWrite s s.HL _⟩,
    encode_setAtHL b, _, (exec_setAtHL b s).trans (bitAtHL_set b s), _, isWithBit_or _ _, frame_readWrite s s.HL _⟩

/-- Two rows that write the same bit one after the other leave what the second writes, which is the register's old value
exactly when the bit held that already. -/
theorem WritesBitOfReg.roundTrip {i j : Instr} {r : Reg8} {b : Nat} {x y : Bool} (hi : WritesBitOfReg i r b x)
    (hj : WritesBitOfReg j r b y) (hb : b < 8) (s : State) :
    ∃ t u, exec i s = .next t ∧ exec j t = .next u ∧ (u.reg r = s.reg r ↔ (s.reg r).getLsbD b = y) := by
  obtain ⟨t, hexec, hfirst, -⟩ := hi s
  obtain ⟨u, hexec', hsecond, -⟩ := hj t
  exact ⟨t, u, hexec, hexec', (hfirst.trans hsecond).eq_iff hb⟩

/-- Settles O39: the second of the two writes of the bit decides. -/
theorem setThenResetRestoresIffClear : Obligations.SetThenResetRestoresIffClear := by
  unfold Obligations.SetThenResetRestoresIffClear
  intro b r s
  have hb : b.toByte.toNat < 8 := Nat.lt_succ_of_le (field3_le_seven b)
  have hset := setReg_writesBit b r
  have hreset := resetReg_writesBit b r
  exact ⟨hset.roundTrip hreset hb s, hreset.roundTrip hset hb s⟩

/-! ## The bit index (R210, R261, D16) -/

section index
variable {i : Byte}

theorem bitUnit_fault (kind : BitKind) (v : Byte) (hi : 7 < i.toNat) :
    bitUnit kind i v = .error (.bitIndexFault i) := if_pos hi

theorem bitReg_fault (kind : BitKind) (r : Reg8) (s : State) (hi : 7 < i.toNat) :
    bitReg kind i r s = raise (.bitIndexFault i) := by rw [bitReg, bitUnit_fault kind _ hi]

theorem bitAtHL_fault (kind : BitKind) (s : State) (hi : 7 < i.toNat) :
    bitAtHL kind i s = raise (.bitIndexFault i) := by rw [bitAtHL, bitUnit_fault kind _ hi]

/-- An index up to 7 is the value of a field (spec/30_encoding.md R76). -/
theorem exists_toByte_eq (hi : i.toNat ≤ 7) : ∃ b : Field3, b.toByte = i :=
  ⟨.ofNumber i.toNat, BitVec.eq_of_toNat_eq
    ((Laws.toByte_ofNumber_toNat i.toNat).trans (Nat.mod_eq_of_lt (Nat.lt_succ_of_le hi)))⟩

end index

/-- Settles O38: above 7 the unit faults, after the operand's read alone; up to 7 the index is a field's, for which the
handlers complete. -/
theorem bitIndexAboveSevenFaults : Obligations.BitIndexAboveSevenFaults := by
  unfold Obligations.BitIndexAboveSevenFaults
  intro kind i r s
  refine ⟨fun hi => ?_, fun hi => ?_, rfl⟩
  · rw [bitReg_fault kind r s hi, bitAtHL_fault kind s hi]
    exact ⟨⟨rfl, stopsAfter_settleBit s (.reg r) _⟩, rfl, stopsAfter_settleBit s .atHL _⟩
  · obtain ⟨b, rfl⟩ := exists_toByte_eq hi
    exact ⟨bitReg_completes kind b r s, bitAtHL_completes kind b s⟩

end Sys2Proof.Machine

/-! The family 45_control: the jumps (O40, O41), the calls and restarts (O42, O44), and the returns (O43). -/

namespace Sys2Proof.Machine

/-! ## The encodings of the rows by their fields (spec/30_encoding.md R73, R77) -/

theorem encode_jpIf (cc : Cond) (nn : Addr) :
    encode (Rows.jpIf cc nn) = [0xC2 + 8 * ccCode cc, loByte nn, hiByte nn] := by cases cc <;> rfl

theorem encode_jrIf (cc : Cond) (e : Byte) : encode (Rows.jrIf cc e) = [0x20 + 8 * ccCode cc, e] := by cases cc <;> rfl

theorem encode_callIf (cc : Cond) (nn : Addr) :
    encode (Rows.callIf cc nn) = [0xC4 + 8 * ccCode cc, loByte nn, hiByte nn] := by cases cc <;> rfl

theorem encode_retIf (cc : Cond) : encode (Rows.retIf cc) = [0xC0 + 8 * ccCode cc] := by cases cc <;> rfl

theorem encode_rst (t : Field3) : encode (Rows.rst t) = [0xC7 + 8 * t.toByte] := by cases t <;> rfl

/-! ## A transfer that the condition unit gates (spec/45_control.md R220) -/

theorem State.cond_eq_taken (s : State) (cc : Cond) : s.cond cc = taken cc s := by
  cases cc with
  | NZ | NC => exact (beq_false _).symm
  | Z | C => exact (beq_true _).symm

/-- A row that moves to `u` where the condition holds has what `u` has when taken, and leaves the state alone when not. -/
theorem completes_of_ifCond {i : Instr} {cc : Cond} {s u : State} {post : State → Prop}
    (hexec : exec i s = if s.cond cc then .next u else .next s) (hu : post u) :
    Completes i s fun t => (taken cc s = true → post t) ∧ (taken cc s = false → Frame [] [] s t) := by
  rw [State.cond_eq_taken] at hexec
  cases htaken : taken cc s with
  | true => exact ⟨u, hexec.trans (if_pos htaken), fun _ => hu, nofun⟩
  | false => exact ⟨s, hexec.trans (if_neg (by simp [htaken])), nofun, fun _ => .refl s⟩

/-! ## Jumps (R222-R226) -/

theorem jumpsTo_goto (target : Addr) (s : State) : JumpsTo target s (s.goto target) := ⟨rfl, frame_goto s target⟩

/-- A frame without registers is a jump to where PC stands. -/
theorem Frame.jumpsTo_PC {s t : State} (h : Frame [] [] s t) : JumpsTo s.PC s t :=
  ⟨h.regs_kept .PC List.not_mem_nil, h.mono nofun rfl⟩

theorem completes_of_jumpIf {i : Instr} {cc : Cond} {target : Addr} {s : State} (hexec : exec i s = jumpIf cc target s) :
    Completes i s (JumpsTo (if taken cc s then target else s.PC) s) := by
  refine (completes_of_ifCond hexec (jumpsTo_goto target s)).imp fun t ⟨hjump, hstay⟩ => ?_
  split
  · exact hjump ‹_›
  · exact (hstay (Bool.eq_false_iff.mpr ‹_›)).jumpsTo_PC

theorem relTarget_toNat (e : Byte) (s : State) :
    ((relTarget e s).toNat : Int) = ((s.PC.toNat : Int) + e.toInt) % 65536 := by
  have hext := sext16_toNat e
  rw [relTarget, BitVec.toNat_add]
  omega

/-- Settles O40: `jumpTo` its target, gated by the condition unit in the conditional form. -/
theorem absoluteJumps : Obligations.AbsoluteJumps := by
  unfold Obligations.AbsoluteJumps
  intro s nn
  exact ⟨⟨rfl, _, rfl, jumpsTo_goto nn s⟩, ⟨rfl, _, rfl, jumpsTo_goto s.HL s⟩,
    fun cc => ⟨encode_jpIf cc nn, completes_of_jumpIf (exec_jpIf cc nn s)⟩⟩

/-- Settles O41: the jump to `relTarget`, which is the signed sum modulo 2^16. -/
theorem relativeJumps : Obligations.RelativeJumps := by
  unfold Obligations.RelativeJumps
  intro s e
  refine ⟨⟨rfl, _, rfl, relTarget_toNat e s, frame_goto s _⟩, fun cc => ⟨encode_jrIf cc e, ?_⟩⟩
  refine (completes_of_jumpIf (exec_jrIf cc e s)).imp fun t ⟨hpc, hframe⟩ => ⟨?_, hframe⟩
  rw [hpc]
  split
  · exact relTarget_toNat e s
  · rfl

/-! ## Calls and restarts (R227, R228, R231) -/

theorem callsTo_stackPush_goto (target : Addr) (s : State) : CallsTo target s ((s.stackPush s.PC).goto target) :=
  ⟨rfl, State.stackPush_SP s s.PC, frame_callTo s target⟩

/-- Settles O42: the push of PC and the jump, gated by the condition unit in the conditional form. -/
theorem callsPushNextPC : Obligations.CallsPushNextPC := by
  unfold Obligations.CallsPushNextPC
  intro s nn
  exact ⟨⟨rfl, _, rfl, callsTo_stackPush_goto nn s⟩,
    fun cc => ⟨encode_callIf cc nn, completes_of_ifCond (exec_callIf cc nn s) (callsTo_stackPush_goto nn s)⟩⟩

theorem rstTarget_eq_ofNat (t : Field3) : rstTarget t = BitVec.ofNat 16 (8 * t.toByte.toNat) := by
  rw [Nat.mul_comm, BitVec.ofNat_mul, BitVec.ofNat_toNat]
  rfl

/-- Settles O44: the call of `rstTarget`. -/
theorem restartsCallVector : Obligations.RestartsCallVector := by
  unfold Obligations.RestartsCallVector
  intro s t
  rw [← rstTarget_eq_ofNat]
  exact ⟨encode_rst t, _, exec_rst t s, callsTo_stackPush_goto (rstTarget t) s⟩

/-! ## Returns (R229, R230) -/

theorem returns_afterPop_goto (s : State) : Returns s (s.afterPop.goto s.popValue) :=
  ⟨popValue_toNat s, State.afterPop_SP s, frame_ret s⟩

/-- Settles O43: the pop into PC, gated by the condition unit in the conditional form. -/
theorem returnsPopPC : Obligations.ReturnsPopPC := by
  unfold Obligations.ReturnsPopPC
  intro s
  exact ⟨⟨rfl, _, rfl, returns_afterPop_goto s⟩,
    fun cc => ⟨encode_retIf cc, completes_of_ifCond (exec_retIf cc s) (returns_afterPop_goto s)⟩⟩

end Sys2Proof.Machine

/-! The family 46_misc: DAA (O45) and its BCD sums and differences (O46), CPL, CCF, SCF and NOP (O47), and the opcodes that
stop: the refused (O48) and the unassigned (O49). -/

namespace Sys2Proof.Machine

/-! ## DAA (spec/46_misc.md R241) -/

/-- Every adjustment's flags are a flag byte. -/
theorem daa_flags (p : FlagProfile) (a : Byte) (n h c : Bool) :
    ∃ z' n' h' c', (daa p a n h c).flags = flagByte z' n' h' c' := by
  cases p with
  | DOC => exact ⟨_, _, _, _, rfl⟩
  | SM83 => cases n <;> exact ⟨_, _, _, _, rfl⟩

/-- A and F take the two outputs of the unit, and nothing else changes. -/
theorem completes_daa (s : State) :
    Completes .daa s fun t =>
      t.A = (daa s.launch.flagProfile s.A s.flagN s.flagH s.flagC).res ∧
      t.F = (daa s.launch.flagProfile s.A s.flagN s.flagH s.flagC).flags ∧ Frame [.A, .F] [] s t := by
  obtain ⟨z, n, h, c, hflags⟩ := daa_flags s.launch.flagProfile s.A s.flagN s.flagH s.flagC
  rw [hflags]
  exact completes_of_setReg_writeF (r := .A) rfl hflags

/-- Under DOC it adds whatever N is, and C is the high test. -/
theorem daa_DOC_eq (a : Byte) (n h c : Bool) :
    let lo := decide (a.toNat % 16 > 9) || h
    let hi := decide (a.toNat / 16 > 9) || c
    (daa .DOC a n h c).res.toNat = (a.toNat + (if lo then 0x06 else 0) + (if hi then 0x60 else 0)) % 256 ∧
      (daa .DOC a n h c).flags = flagByte ((daa .DOC a n h c).res == 0) n false hi :=
  ⟨BitVec.toNat_ofNat _ 8, rfl⟩

/-- Under SM83 with N = 0 the unit adds the high correction first. -/
theorem daa_SM83_add_eq (a : Byte) (h c : Bool) :
    let hi := c || decide (a.toNat > 0x99)
    let lo := h || decide (a.toNat % 16 > 9)
    (daa .SM83 a false h c).res.toNat = (a.toNat + (if lo then 0x06 else 0) + (if hi then 0x60 else 0)) % 256 ∧
      (daa .SM83 a false h c).flags = flagByte ((daa .SM83 a false h c).res == 0) false false hi := by
  intro hi lo
  rw [Nat.add_right_comm]
  exact ⟨BitVec.toNat_ofNat _ 8, rfl⟩

/-- Under SM83 with N = 1 the unit subtracts the two corrections as one. -/
theorem daa_SM83_sub_eq (a : Byte) (h c : Bool) :
    ((daa .SM83 a true h c).res.toNat : Int) =
        ((a.toNat : Int) - (if c then 0x60 else 0) - (if h then 0x06 else 0)) % 256 ∧
      (daa .SM83 a true h c).flags = flagByte ((daa .SM83 a true h c).res == 0) true false c := by
  rw [Int.sub_sub]
  exact ⟨byte_ofInt_toNat _, rfl⟩

/-- Settles O45: A and F are the outputs of the unit, which are as R241 states them for each profile and N. -/
theorem decimalAdjustByProfile : Obligations.DecimalAdjustByProfile := by
  unfold Obligations.DecimalAdjustByProfile
  refine ⟨rfl, fun s => (completes_daa s).imp fun t ⟨hres, hflags, hframe⟩ => ⟨hframe, ?_, ?_, ?_⟩⟩
  · intro hp
    rw [hflags, hres, hp]
    exact daa_DOC_eq s.A s.flagN s.flagH s.flagC
  · intro hp hn
    rw [hflags, hres, hp, hn]
    exact daa_SM83_add_eq s.A s.flagH s.flagC
  · intro hp hn
    rw [hflags, hres, hp, hn]
    exact daa_SM83_sub_eq s.A s.flagH s.flagC

/-! ## DAA after an addition or a subtraction of two BCD bytes, under SM83 (K10) -/

theorem bcd_toNat {n : Nat} (hn : n < 100) : (bcd n).toNat = n / 10 * 16 + n % 10 := by
  rw [bcd, BitVec.toNat_ofNat]
  omega

theorem eq_bcd_iff {b : Byte} {n : Nat} (hn : n < 100) : b = bcd n ↔ b.toNat = n / 10 * 16 + n % 10 := by
  rw [← BitVec.toNat_inj, bcd_toNat hn]

theorem flags_of_F_eq {s : State} {z n h c : Bool} (hF : s.F = flagByte z n h c) :
    s.flagZ = z ∧ s.flagN = n ∧ s.flagH = h ∧ s.flagC = c := by
  unfold State.flagZ State.flagN State.flagH State.flagC
  rw [hF]
  exact flagByte_bits z n h c

section bcd
variable {x y : Nat} {cin : Bool} {a : Byte}

/-- The low correction of a sum of BCD bytes is made exactly when the low digits carry. -/
theorem bcdSum_low_iff (hx : x < 100) (hy : y < 100)
    (ha : a.toNat = ((bcd x).toNat + (bcd y).toNat + cin.toNat) % 256) :
    (16 ≤ (bcd x).toNat % 16 + (bcd y).toNat % 16 + cin.toNat ∨ 9 < a.toNat % 16) ↔
      10 ≤ x % 10 + y % 10 + cin.toNat := by
  have hc := cin.toNat_le
  rw [bcd_toNat hx, bcd_toNat hy] at ha ⊢
  omega

/-- The high correction is made exactly when the sum does not fit in two digits, as it does not where it wraps. -/
theorem bcdSum_high_iff (hx : x < 100) (hy : y < 100)
    (ha : a.toNat = ((bcd x).toNat + (bcd y).toNat + cin.toNat) % 256) :
    (256 ≤ (bcd x).toNat + (bcd y).toNat + cin.toNat ∨ 0x99 < a.toNat) ↔ 100 ≤ x + y + cin.toNat := by
  have hc := cin.toNat_le
  rw [bcd_toNat hx, bcd_toNat hy] at ha ⊢
  by_cases hwrap : x / 10 * 16 + x % 10 + (y / 10 * 16 + y % 10) + cin.toNat < 256
  · rw [Nat.mod_eq_of_lt hwrap] at ha
    omega
  · omega

end bcd

/-- The two corrections are the decimal carries of the digits, each worth 6 in its digit. -/
theorem daa_of_addsToA_bcd {s t : State} {x y : Nat} {cin : Bool} (hx : x < 100) (hy : y < 100) (hA : s.A = bcd x)
    (hp : s.launch.flagProfile = .SM83) (hadd : AddsToA cin (bcd y) [] s t) :
    Completes .daa t fun u =>
      u.A = bcd ((x + y + cin.toNat) % 100) ∧ u.flagC = decide (100 ≤ x + y + cin.toNat) := by
  obtain ⟨hres, hF, hframe⟩ := hadd
  rw [hA] at hres hF
  obtain ⟨-, hN, hH, hC⟩ := flags_of_F_eq hF
  refine (decimalAdjustByProfile.2 t).imp fun u ⟨_, _, hu, _⟩ => ?_
  have hlow : (t.flagH || decide (t.A.toNat % 16 > 9)) = decide (10 ≤ x % 10 + y % 10 + cin.toNat) := by
    rw [hH, ← Bool.decide_or, decide_eq_decide]
    exact bcdSum_low_iff hx hy hres
  have hhigh : (t.flagC || decide (t.A.toNat > 0x99)) = decide (100 ≤ x + y + cin.toNat) := by
    rw [hC, ← Bool.decide_or, decide_eq_decide]
    exact bcdSum_high_iff hx hy hres
  obtain ⟨huA, huF⟩ := hu (hframe.launch ▸ hp) hN
  obtain ⟨-, -, -, huC⟩ := flags_of_F_eq huF
  refine ⟨?_, huC.trans hhigh⟩
  have hc := cin.toNat_le
  rw [hlow, hhigh, hres, bcd_toNat hx, bcd_toNat hy] at huA
  simp only [decide_eq_true_eq] at huA
  rw [eq_bcd_iff (Nat.mod_lt _ (by decide)), huA]
  split <;> split <;> omega

/-- The flags that the subtraction leaves are the decimal borrows of the digits, each worth 6 in its digit. -/
theorem daa_of_subtractsFromA_bcd {s t : State} {x y : Nat} {cin : Bool} (hx : x < 100) (hy : y < 100)
    (hA : s.A = bcd x) (hp : s.launch.flagProfile = .SM83) (hsub : SubtractsFromA cin (bcd y) [] s t) :
    Completes .daa t fun u =>
      u.A = bcd ((x + 200 - y - cin.toNat) % 100) ∧ u.flagC = decide (x < y + cin.toNat) := by
  have hc := cin.toNat_le
  obtain ⟨hres, hF, hframe⟩ := hsub
  rw [hA, bcd_toNat hx, bcd_toNat hy] at hres hF
  obtain ⟨-, hN, hH, hC⟩ := flags_of_F_eq hF
  have hlow : t.flagH = decide (x % 10 < y % 10 + cin.toNat) := by
    rw [hH, decide_eq_decide]
    omega
  have hhigh : t.flagC = decide (x < y + cin.toNat) := by
    rw [hC, decide_eq_decide]
    omega
  refine (decimalAdjustByProfile.2 t).imp fun u ⟨_, _, _, hu⟩ => ?_
  obtain ⟨huA, huF⟩ := hu (hframe.launch ▸ hp) hN
  obtain ⟨-, -, -, huC⟩ := flags_of_F_eq huF
  refine ⟨?_, huC.trans hhigh⟩
  rw [hlow, hhigh, hres] at huA
  simp only [decide_eq_true_eq] at huA
  rw [eq_bcd_iff (Nat.mod_lt _ (by decide))]
  split at huA <;> split at huA <;> omega

/-- Settles O46: the addition and the subtraction are O23's and O24's, and DAA adjusts what they leave. -/
theorem siliconDecimalAdjustGivesBcd : Obligations.SiliconDecimalAdjustGivesBcd := by
  unfold Obligations.SiliconDecimalAdjustGivesBcd
  intro s x y hx hy hp hA
  obtain ⟨-, -, hadc⟩ := addAndAdcToA.2 s
  obtain ⟨-, -, hsbc⟩ := subAndSbcFromA.2 s
  constructor
  · obtain ⟨-, t, ht, hadd⟩ := hadc (bcd y)
    obtain ⟨u, hu, hpost⟩ := daa_of_addsToA_bcd hx hy hA hp hadd
    exact ⟨t, u, ht, hu, hpost⟩
  · obtain ⟨-, t, ht, hsub⟩ := hsbc (bcd y)
    obtain ⟨u, hu, hpost⟩ := daa_of_subtractsFromA_bcd hx hy hA hp hsub
    exact ⟨t, u, ht, hu, hpost⟩

/-! ## CPL, CCF, SCF and NOP (R242-R244, R246) -/

/-- A row that writes the whole of F and nothing else. -/
theorem completes_of_writeF {i : Instr} {z n h c : Bool} {s : State}
    (hexec : exec i s = .next (s.writeF (flagByte z n h c))) :
    Completes i s fun t => t.F = flagByte z n h c ∧ Frame [.F] [] s t :=
  ⟨_, hexec, writeF_flagByte s z n h c, frame_writeF s _⟩

/-- Settles O47: CPL writes A and F, CCF and SCF write F alone, and NOP leaves the state it is given. -/
theorem complementCarryAndNop : Obligations.ComplementCarryAndNop := by
  unfold Obligations.ComplementCarryAndNop
  intro s
  refine ⟨⟨rfl, ?_⟩, ⟨rfl, completes_of_writeF rfl⟩, ⟨rfl, completes_of_writeF rfl⟩, rfl, s, rfl, .refl s⟩
  refine (completes_of_setReg_writeF (r := .A) rfl rfl).imp fun t ⟨hres, hflags, hframe⟩ => ⟨?_, hflags, hframe⟩
  change t.A = ~~~s.A at hres
  rw [hres]
  exact BitVec.toNat_not

/-! ## The opcodes that stop (R247-R252, R262, R263) -/

/-- A step at an opcode whose row answers `r` whatever bytes follow and in whatever state answers `r`. -/
theorem step_of_opcode {s : State} {op : Byte} {r : Result} (hrun : s.outcome = .running)
    (hstop : s.launch.stopAddr ≠ some s.PC) (hop : s.portValue s.PC = op)
    (hexec : ∀ b1 b2 t, exec (decodeInsn op b1 b2) t = r) : step s = r := by
  obtain ⟨b1, b2, hfetch⟩ := decodeInsn_fetch s.beginStep
  have hbegin : s.beginStep.portValue s.beginStep.PC = op := hop
  rw [step_running s hrun hstop, hfetch, hbegin]
  exact hexec b1 b2 _

/-- The row whose encoding is the one byte `op` answers what the decoder's row for `op` answers. -/
theorem exec_of_encode_singleton {i : Instr} {op : Byte} {r : Result} (hwf : i.wf = true) (henc : encode i = [op])
    (hexec : ∀ b1 b2 t, exec (decodeInsn op b1 b2) t = r) (s : State) : exec i s = r := by
  obtain ⟨op', operands, henc', -, hdec⟩ := Laws.encode_eq_cons hwf
  obtain ⟨rfl, -⟩ := List.cons_eq_cons.mp (henc.symm.trans henc')
  rw [← hdec]
  exact hexec _ _ s

theorem exec_decodeInsn_outOfScope {op : Byte} (hop : op ∈ outOfScopeOpcodes) (b1 b2 : Byte) (s : State) :
    exec (decodeInsn op b1 b2) s = .refused (.outOfScope op) := by
  fin_cases hop <;> rfl

theorem exec_decodeInsn_illegal {op : Byte} (hop : op ∈ illegalOpcodes) (b1 b2 : Byte) (s : State) :
    exec (decodeInsn op b1 b2) s = raise (.illegalOpcode op) := by
  fin_cases hop <;> rfl

/-- Settles O48: the refusal of the row that the opcode selects, and the state a refused step settles in. -/
theorem outOfScopeOpcodesRefused : Obligations.OutOfScopeOpcodesRefused := by
  unfold Obligations.OutOfScopeOpcodesRefused
  constructor
  · intro x hx
    have hrow : x.1.wf = true ∧ encode x.1 = [x.2] ∧ x.2 ∈ outOfScopeOpcodes := by
      revert x
      decide
    obtain ⟨hwf, henc, hop⟩ := hrow
    exact ⟨henc, exec_of_encode_singleton hwf henc (exec_decodeInsn_outOfScope hop)⟩
  · intro s op hrun hstop hport hop
    rw [step_of_opcode hrun hstop hport (exec_decodeInsn_outOfScope hop), settle_refused hrun]
    exact ⟨rfl, stopsAtOpcode_opcodeRead hport _⟩

/-- Settles O49: the fault of the row that the opcode selects, and the state a step that faults at its opcode settles in. -/
theorem illegalOpcodesFault : Obligations.IllegalOpcodesFault := by
  unfold Obligations.IllegalOpcodesFault
  constructor
  · intro x hx
    have hrow : x.1.wf = true ∧ encode x.1 = [x.2] ∧ x.2 ∈ illegalOpcodes := by
      revert x
      decide
    obtain ⟨hwf, henc, hop⟩ := hrow
    exact ⟨henc, exec_of_encode_singleton hwf henc (exec_decodeInsn_illegal hop), rfl⟩
  · intro s op hrun hstop hport hop
    rw [step_of_opcode hrun hstop hport (exec_decodeInsn_illegal hop), settle_illegalOpcode hrun]
    exact ⟨rfl, stopsAtOpcode_opcodeRead hport _⟩

end Sys2Proof.Machine

/-! The family 60_exceptions, with 70_reset_and_hazards: the instructions that stop (O58), the end of a run (O52), and the
invariant at reset (O2). -/

namespace Sys2Proof.Machine

/-! ## Every stop is that of a listed opcode (R261-R264) -/

/-- `r` is an answer R264 allows the row `i`: a next state, or the stop of the listed opcode that is its encoding. -/
inductive StopsAsListed (i : Instr) : Result → Prop
  | next (t : State) : StopsAsListed i (.next t)
  | fault {op : Byte} (hop : op ∈ illegalOpcodes) (henc : encode i = [op]) : StopsAsListed i (raise (.illegalOpcode op))
  | refused {op : Byte} (hop : op ∈ outOfScopeOpcodes) (henc : encode i = [op]) : StopsAsListed i (refuse op)

namespace StopsAsListed
variable {i : Instr} {r : Result}

theorem of_completes (h : ∃ t, r = .next t) : StopsAsListed i r := by
  obtain ⟨t, rfl⟩ := h
  exact .next t

/-- A conditional transfer stops only where the transfer does. -/
theorem ifTaken (c : Bool) (s : State) (h : StopsAsListed i r) : StopsAsListed i (if c then r else .next s) := by
  split
  · exact h
  · exact .next s

theorem illegal_of_fault {f : Fault} (h : StopsAsListed i (.fault f)) :
    ∃ op ∈ illegalOpcodes, encode i = [op] ∧ f = .illegalOpcode op := by
  cases h with
  | fault hop henc => exact ⟨_, hop, henc, rfl⟩

theorem outOfScope_of_refused {q : Refusal} (h : StopsAsListed i (.refused q)) :
    ∃ op ∈ outOfScopeOpcodes, encode i = [op] ∧ q = .outOfScope op := by
  cases h with
  | refused hop henc => exact ⟨_, hop, henc, rfl⟩

end StopsAsListed

/-- Beside the two kinds of rows that stop, only the bit operations could, and the index a row gives them is a field's
(R210), so `BitIndexFault` is raised by none. -/
theorem Meaning.stopsAsListed {i : Instr} {f : State → Result} (h : Meaning i f) (s : State) :
    StopsAsListed i (f s) := by
  cases h with
  | illegal op hop henc => exact .fault hop henc
  | outOfScope op hop henc => exact .refused hop henc
  | testReg b r | resetReg b r | setReg b r => exact .of_completes (bitReg_completes _ b r s)
  | testAtHL b | resetAtHL b | setAtHL b => exact .of_completes (bitAtHL_completes _ b s)
  | prefix_CB cb => exact .of_completes (prefixed_completes cb s)
  | jpIf | jrIf | callIf | retIf => exact .ifTaken _ s (.next _)
  | _ => exact .next _

/-- Settles O58: the meaning `exec` runs stops only as its row is listed. -/
theorem onlyListedOpcodesStop : Obligations.OnlyListedOpcodesStop := by
  unfold Obligations.OnlyListedOpcodesStop
  intro i s
  obtain ⟨f, hf⟩ := exists_meaning i
  rw [hf.exec_eq]
  have hlisted : StopsAsListed i (f s) := hf.stopsAsListed s
  exact ⟨fun _ hr => (hr ▸ hlisted).illegal_of_fault, fun _ hr => (hr ▸ hlisted).outOfScope_of_refused⟩

/-! ## The end of a run (R260, R262, R287) -/

theorem step_at_stopAddr {s : State} (hrun : s.outcome = .running) (hstop : s.launch.stopAddr = some s.PC) :
    step s = .next s.beginStep.markDone := by
  simp only [step, hrun, hstop, if_true]

theorem step_of_fault {s : State} {f : Fault} (h : s.outcome = .fault f) : step s = .fault f := by
  simp only [step, h]

theorem step_of_refused {s : State} {q : Refusal} (h : s.outcome = .refused q) : step s = .refused q := by
  simp only [step, h]

/-- Settles O52: by the outcome of the state, since only a running one steps, and to `markDone` at STOP_ADDR. -/
theorem runsEndAndStayEnded : Obligations.RunsEndAndStayEnded := by
  unfold Obligations.RunsEndAndStayEnded
  intro s
  refine ⟨fun hrun hstop => ?_, fun t ht => (step_next_cases ht).1, fun f hf => ?_, fun q hq => ?_⟩
  · exact ⟨_, step_at_stopAddr hrun hstop, rfl, rfl, rfl⟩
  · have hended : s.outcome ≠ .running := by simp [hf]
    rw [step_of_fault hf]
    exact ⟨rfl, (settle_ended hended).1 f⟩
  · have hended : s.outcome ≠ .running := by simp [hq]
    rw [step_of_refused hq]
    exact ⟨rfl, (settle_ended hended).2 q⟩

/-! ## Reset (R280, R281) -/

/-- The power-on state has F = 0 and empty records, so the invariant is the canonical form of the launch image. -/
theorem inv_powerOn (p : Launch) {image : List Host.Cell} (himage : Memory.wf image = true) :
    (State.powerOn p image).Inv :=
  have hF : (0x00 : Byte) &&& 0x0F = 0 := by decide
  ⟨himage, hF, nofun, rfl, fun _ => rfl⟩

/-- Settles O2: reset is the power-on state over the empty image, which is canonical. -/
theorem resetMeetsInvariant : Obligations.ResetMeetsInvariant := by
  unfold Obligations.ResetMeetsInvariant
  exact ⟨inv_powerOn Launch.default rfl, fun p _ himage => inv_powerOn p himage⟩

end Sys2Proof.Machine
